-- ==== Sys2Proof/Word.lean ====
section
/-! DEFINITION. The widths of the block's values (00_scope.md R13, 10_state.md R20). -/

namespace Sys2Proof

/-- A byte: 8 bits, bit 0 least significant (R13). -/
abbrev Byte := BitVec 8

/-- A 16-bit word: a narrow value's pattern and a derived integer (R44, R132). -/
abbrev Half := BitVec 16

/-- A 32-bit word: counters, clock values, binary32 patterns (R36, R38, R42). -/
abbrev Word := BitVec 32

/-- An operation word `w[10:0]` (R80). -/
abbrev OpWord := BitVec 11

/-- Three like registers, indices 0, 1, 2 in that order: X, Y, Z or roll, pitch, yaw (R42). -/
structure Triple (α : Type) where
  x : α
  y : α
  z : α
  deriving DecidableEq, Repr

/-- The same function on each of the three. -/
def Triple.map {α β : Type} (f : α → β) (t : Triple α) : Triple β := ⟨f t.x, f t.y, f t.z⟩

end Sys2Proof
end

