-- ==== Sys2Proof/Config.lean ====
section
/-! DEFINITION. The parameters of 00_scope.md R11 that a model takes as arguments, and the values the
spec leaves open: constants without a body, so that no proof can see what they are. -/

namespace Sys2Proof

/-- The data mode (R31): ALL, GYRO, EULER; exactly one is active. -/
inductive DataMode where
  | all
  | gyro
  | euler
  deriving DecidableEq, Repr

/-- The parameters of the block that are arguments of the model (R11, R12). -/
structure Config where
  /-- `MAGIC[0..3]`: OPEN, four bytes, no constraint (R12, D5, U9). -/
  magic : Vector Byte 4
  /-- `DEFAULT_MODE`: ALL unless the model is given another value (R11, D6, U10). -/
  defaultMode : DataMode
  deriving DecidableEq, Repr

/-- Free value: `MAGIC[k]` of the block that State.reset describes (U9; assumption 4). -/
opaque Config.magicByte : Nat → Byte

/-- Free value: the 32-bit registers whose value at power-up is unspecified (R38, R45; assumption 6). -/
opaque Config.powerUpWord : Nat → Word

/-- Free value: the 16-bit registers whose value at power-up is unspecified (R45; assumption 6). -/
opaque Config.powerUpHalf : Nat → Half

/-- Free value: the 8-bit registers whose value at power-up is unspecified (R45; assumption 6). -/
opaque Config.powerUpByte : Nat → Byte

/-- Free value, host side: whether the mode byte of `#m` is an ASCII digit (N13; assumption 16). -/
opaque Config.modeByteIsAscii : Bool

/-- Free value, host side: whether the identifier of `#b` is an ASCII digit (N13; assumption 16). -/
opaque Config.baudIdIsAscii : Bool

/-- Free value, host side: whether `begin`'s rate change tells the device first (R194; assumption 16). -/
opaque Config.beginTellsDevice : Bool

/-- Free value, host side: whether `begin`'s rate change flushes pending output (R194; assumption 16). -/
opaque Config.beginFlushes : Bool

/-- The parameters at power-up: `MAGIC` open, `DEFAULT_MODE` ALL (R11). -/
def Config.standard : Config where
  magic := #v[Config.magicByte 0, Config.magicByte 1, Config.magicByte 2, Config.magicByte 3]
  defaultMode := .all

end Sys2Proof
end

