-- ==== Sys2Proof/Syntax.lean ====
section
/-! DEFINITION. The operation set of 00_scope.md R4: one constructor per row of the opcode table (30_encoding.md R81).
RESET has no operation word (R83): it is an event on the input port, a constructor of `Machine.Input`. -/

namespace Sys2Proof

/-- One operation. The operands are typed with the widths of R81, so every term is an operation the host can present. -/
inductive Instr where
  /-- `BYTE b`: consume one received byte (R110). -/
  | byte (b : Byte)
  /-- `SETMODE m`: select the data mode, clear framing state (R161). -/
  | setmode (m : Byte)
  /-- `RDALL`: read the frame of type ALL (R163). -/
  | rdall
  /-- `RDGYRO`: read the frame of type GYRO (R164). -/
  | rdgyro
  /-- `RDEULER`: read the frame of type EULER (R165). -/
  | rdeuler
  /-- `QNEW c`: query the new-data flag, clear it if `c` is 1 (R166). -/
  | qnew (c : BitVec 1)
  /-- `AGE`: age of the last good data (R167). -/
  | age
  deriving DecidableEq, Repr

end Sys2Proof
end

