-- ==== Sys2Proof/WellFormed.lean ====
section
/-! DEFINITION. Which operation words are operations: the match and mask table of 30_encoding.md R81, independent of the
decoder. A word that matches no row is reserved (R91). -/

namespace Sys2Proof

/-- One row of R81: a word `w` belongs to it when `w &&& mask = pattern`. -/
structure OpRow where
  mnemonic : String
  pattern  : OpWord
  mask     : OpWord
  deriving DecidableEq, Repr

/-- The opcode map of R81, in its order. -/
def opRows : List OpRow :=
  [⟨"BYTE", 0x000#11, 0x700#11⟩, ⟨"SETMODE", 0x100#11, 0x700#11⟩, ⟨"RDALL", 0x200#11, 0x7FF#11⟩,
   ⟨"RDGYRO", 0x201#11, 0x7FF#11⟩, ⟨"RDEULER", 0x202#11, 0x7FF#11⟩, ⟨"QNEW", 0x300#11, 0x7FE#11⟩,
   ⟨"AGE", 0x400#11, 0x7FF#11⟩]

/-- The word belongs to the row (R81). -/
def OpRow.covers (r : OpRow) (w : OpWord) : Bool := w &&& r.mask == r.pattern

/-- The word is an operation: some row of R81 covers it. -/
def wordWellFormed (w : OpWord) : Bool := opRows.any (·.covers w)

/-- A sequence of operation words is a program in the sense of U1 when it holds no reserved word. -/
def programWellFormed (ws : List OpWord) : Bool := ws.all wordWellFormed

/-- Every operation is well formed: its operands are typed with the widths R81 gives, and R81 admits each value
of them (R92: SETMODE has no reserved operand). -/
def Instr.wellFormed : Instr → Bool
  | .byte _ => true
  | .setmode _ => true
  | .rdall => true
  | .rdgyro => true
  | .rdeuler => true
  | .qnew _ => true
  | .age => true

end Sys2Proof
end

