-- ==== Sys2Proof/Decode.lean ====
section
/-! DEFINITION. The decoder of the operation word (30_encoding.md R80, R81, R91, R92), total on all 2048 words, and the
encoder written from the patterns of R81. -/

namespace Sys2Proof

/-- Why a word is reserved (R91). The block raises nothing for it; the name is for a reader of a trace. -/
inductive DecodeError where
  /-- `op` is 5, 6 or 7. -/
  | reservedOpcode
  /-- `op = 2` with `data` 3 to 255. -/
  | reservedReadSelector
  /-- `op = 3` with `data` 2 to 255. -/
  | reservedQueryOperand
  /-- `op = 4` with `data` 1 to 255. -/
  | reservedAgeOperand
  deriving DecidableEq, Repr

/-- `w[10:8]`, the opcode field (R80). -/
def opField (w : OpWord) : BitVec 3 := w.extractLsb' 8 3

/-- `w[7:0]`, the operand field (R80). -/
def dataField (w : OpWord) : Byte := w.extractLsb' 0 8

/-- The operand of `op = 2` selects the frame type (R81). -/
def decodeRead (d : Byte) : Except DecodeError Instr :=
  if d = 0 then .ok .rdall
  else if d = 1 then .ok .rdgyro
  else if d = 2 then .ok .rdeuler
  else .error .reservedReadSelector

/-- The operand of `op = 3`: bits 7 to 1 zero, the clear bit in bit 0 (R81). -/
def decodeQuery (d : Byte) : Except DecodeError Instr :=
  if d.extractLsb' 1 7 = 0 then .ok (.qnew (d.extractLsb' 0 1)) else .error .reservedQueryOperand

/-- The operand of `op = 4` is zero (R81). -/
def decodeAge (d : Byte) : Except DecodeError Instr :=
  if d = 0 then .ok .age else .error .reservedAgeOperand

/-- The operation a word stands for, or why it is reserved (R81, R91). -/
def decode (w : OpWord) : Except DecodeError Instr :=
  match (opField w).toNat with
  | 0 => .ok (.byte (dataField w))
  | 1 => .ok (.setmode (dataField w))
  | 2 => decodeRead (dataField w)
  | 3 => decodeQuery (dataField w)
  | 4 => decodeAge (dataField w)
  | _ => .error .reservedOpcode

/-- `op ++ data` (R80). -/
def packOp (op : BitVec 3) (data : Byte) : OpWord := op ++ data

/-- The word of an operation (R81). -/
def encode : Instr → OpWord
  | .byte b => packOp 0 b
  | .setmode m => packOp 1 m
  | .rdall => packOp 2 0
  | .rdgyro => packOp 2 1
  | .rdeuler => packOp 2 2
  | .qnew c => packOp 3 (0#7 ++ c)
  | .age => packOp 4 0

/-- The operation word in a number whose bits are numbered as the opcode table numbers them. The operation port
is 11 bits wide (R80): a number that needs more is no operation word (assumption 9). -/
def opWordOf (w : Nat) : Option OpWord := if w < 2 ^ 11 then some (BitVec.ofNat 11 w) else none

/-- The instruction the decoder reads from a table word. An operation word has one length (R80), so the count of
bits plays no part (assumption 9). -/
def decodeTableWord (_nbits w : Nat) : Option Instr :=
  match opWordOf w with
  | none => none
  | some v =>
    match decode v with
    | .ok i => some i
    | .error _ => none

end Sys2Proof
end

