-- ==== Sys2Proof/Machine/State.lean ====
section
/-! DEFINITION. The state of the block (10_state.md R20), the inputs the host presents (30_encoding.md R80, R83), the
results it returns (R82), and the state right after reset (R46, 70_reset_and_hazards.md R230). All plain data. -/

namespace Sys2Proof.Machine

/-- The framer sequencing state (R23): `SeekByte k` for `k` = 0, 1, 2, 3, and `Collecting`. -/
inductive FramerState where
  /-- The last `k` bytes matched `MAGIC[0..k-1]`; waiting for `MAGIC[k]`. -/
  | seekByte (k : Fin 4)
  /-- The magic sequence is consumed; appending payload, then awaiting the terminator. -/
  | collecting
  deriving DecidableEq, Repr

/-- The RawPacketBuffer `buf[0..29]` (R27, R66): (index, byte) pairs, indices strictly rising and below 30, no entry
equal to what an unlisted index reads as (`Memory.wf`; assumption 7). -/
abbrev Memory := List Host.Cell

/-- The SensorFrame: one set of registers shared by all modes (R41 to R45). -/
structure SensorFrame where
  /-- accelerometer X, Y, Z: binary32 patterns -/
  acc : Triple Word
  /-- magnetometer X, Y, Z: binary32 patterns -/
  mag : Triple Word
  /-- gyroscope X, Y, Z: binary32 patterns -/
  gyro : Triple Word
  /-- derived integer triple, 16 bits signed -/
  gyroI : Triple Half
  /-- checksum, 8 bits signed -/
  gyroChk : Byte
  /-- roll, pitch, yaw: binary32 patterns -/
  euler : Triple Word
  deriving DecidableEq, Repr

/-- The values one RESET draws for the elements R46 leaves unspecified (R230: arbitrary, afresh at each RESET). -/
structure ResetDraw where
  buf   : Vector Byte 30
  tGood : Word
  frame : SensorFrame
  deriving DecidableEq, Repr

/-- One input of the block: an operation word with its clock value (R80), or the RESET event (R83, R230). -/
inductive Input where
  | op (w : OpWord) (now : Word)
  | rst (draw : ResetDraw)
  deriving DecidableEq, Repr

/-- The record RDALL returns (R82). -/
structure AllFrame where
  acc     : Triple Word
  mag     : Triple Word
  gyro    : Triple Word
  gyroI   : Triple Half
  gyroChk : Byte
  deriving DecidableEq, Repr

/-- The record RDGYRO returns (R82). -/
structure GyroFrame where
  gyro    : Triple Word
  gyroI   : Triple Half
  gyroChk : Byte
  deriving DecidableEq, Repr

/-- The result of an operation (R82), as typed records (U13). -/
inductive Result where
  /-- no value: SETMODE, a reserved word, RESET -/
  | unit
  /-- BYTE: whether a packet event occurred -/
  | evt (occurred : Bool)
  /-- RDALL -/
  | all (f : AllFrame)
  /-- RDGYRO -/
  | gyro (f : GyroFrame)
  /-- RDEULER -/
  | euler (f : Triple Word)
  /-- QNEW: `new_data` before the operation -/
  | flag (newData : Bool)
  /-- AGE -/
  | age (ms : Word)
  deriving DecidableEq, Repr

/-- The state. The first ten fields are the block's, each with its rule; the last four are the model's own (INVENTORY.md). -/
structure State where
  /-- framer sequencing state, R23 -/
  fs       : FramerState
  /-- fill count, 5 bits, R25 -/
  fill     : BitVec 5
  /-- RawPacketBuffer, R27 -/
  buf      : Memory
  /-- active data mode, R31 -/
  mode     : DataMode
  /-- unread new data, R33 -/
  newData  : Bool
  /-- last packet good, R34 -/
  lastGood : Bool
  /-- good-packet count, R36 -/
  goodCnt  : Word
  /-- bad-packet count, R37 -/
  badCnt   : Word
  /-- timestamp of the most recent good frame, R38 -/
  tGood    : Word
  /-- SensorFrame registers, R41 -/
  frame    : SensorFrame
  /-- parameters, read-only (R11, R12; assumption 4) -/
  cfg      : Config
  /-- what the host will present, oldest first (R16; assumption 1) -/
  port     : List Input
  /-- clock input of the operation in progress (R39; assumption 3) -/
  now      : Word
  /-- result of the last operation (R82; assumption 2) -/
  res      : Result
  deriving DecidableEq, Repr

/-- No fault exists: "the step function has no fault outcome and no stuck state" (R210; assumption 19). -/
inductive Fault where
  deriving DecidableEq, Repr

/-- Why a step is refused. -/
inductive Refusal where
  /-- Raised by an arm of `exec` whose operation has no meaning yet; no arm is one. Safe: the machine stops. -/
  | notModelled (mnemonic : String)
  deriving DecidableEq, Repr

/-- The SensorFrame at power-up: unspecified (R45), free values without a body (assumption 6). -/
def SensorFrame.powerUp : SensorFrame where
  acc := ⟨Config.powerUpWord 1, Config.powerUpWord 2, Config.powerUpWord 3⟩
  mag := ⟨Config.powerUpWord 4, Config.powerUpWord 5, Config.powerUpWord 6⟩
  gyro := ⟨Config.powerUpWord 7, Config.powerUpWord 8, Config.powerUpWord 9⟩
  gyroI := ⟨Config.powerUpHalf 0, Config.powerUpHalf 1, Config.powerUpHalf 2⟩
  gyroChk := Config.powerUpByte 0
  euler := ⟨Config.powerUpWord 10, Config.powerUpWord 11, Config.powerUpWord 12⟩

/-- The machine right after reset (R46): the specified elements at their values, the unspecified ones as the
assumption log names them (assumptions 6 and 7), nothing presented yet (assumption 10). -/
def State.reset : State where
  fs := .seekByte 0
  fill := 0
  buf := []
  mode := Config.standard.defaultMode
  newData := false
  lastGood := false
  goodCnt := 0
  badCnt := 0
  tGood := Config.powerUpWord 0
  frame := SensorFrame.powerUp
  cfg := Config.standard
  port := []
  now := 0
  res := .unit

end Sys2Proof.Machine
end

