-- ==== Sys2Proof/Machine/Params.lean ====
section
/-! DEFINITION. The parameters 00_scope.md R11 fixes, the payload layouts of 30_encoding.md R86 to R88 in one replaceable
table (D7), and the numbering of the modes (R31). -/

namespace Sys2Proof.Machine

/-- `TERM`, the one terminator byte that makes a packet good (R11). -/
def termByte : Byte := 0x0A#8

/-- `BUF_CAP`, the bytes of the buffer (R11, R27). -/
def bufCap : Nat := 30

/-- `L(m)`, the payload length of a mode (R11, R31). -/
def payloadLen : DataMode → Nat
  | .all => 30
  | .gyro => 6
  | .euler => 12

/-- The bytes of a whole frame on the wire: magic, payload, terminator (R84, R85). -/
def frameLen (m : DataMode) : Nat := 4 + payloadLen m + 1

/-- `GYRO_INT_FACTOR`, the factor of the derived integers (R11, R134). -/
def gyroIntFactor : Int := 100

/-- The reciprocal of `GYRO_SCALE`, which is 1/256 (R11, R133). -/
def gyroScaleInv : Int := 256

/-- `CHK_MOD`, the modulus of the checksum (R11, R135). -/
def chkMod : Int := 10

/-- The offsets of the fields within a payload, per mode. -/
structure Layouts where
  /-- wide fields of mode ALL -/
  allAcc  : Triple Nat
  /-- wide fields of mode ALL -/
  allMag  : Triple Nat
  /-- narrow fields of mode ALL -/
  allGyro : Triple Nat
  /-- narrow fields of mode GYRO -/
  gyro    : Triple Nat
  /-- wide fields of mode EULER -/
  euler   : Triple Nat
  deriving DecidableEq, Repr

/-- The layouts of R86 (ALL), R87 (GYRO) and R88 (EULER). -/
def layouts : Layouts where
  allAcc := ⟨0, 4, 8⟩
  allMag := ⟨12, 16, 20⟩
  allGyro := ⟨24, 26, 28⟩
  gyro := ⟨0, 2, 4⟩
  euler := ⟨0, 4, 8⟩

/-- ALL = 0, GYRO = 1, EULER = 2: the mode byte of SETMODE and of the command protocol (R31). -/
def modeNumber : DataMode → Byte
  | .all => 0
  | .gyro => 1
  | .euler => 2

/-- The 2-bit code the mode register holds; 3 is never stored (R31, D25). -/
def modeCode (m : DataMode) : BitVec 2 := (modeNumber m).truncate 2

end Sys2Proof.Machine
end

