-- ==== Sys2Proof/Machine/Flags.lean ====
section
/-! DEFINITION. The two flags of the block and the two counters that go with the packet event (10_state.md R33 to R37). No
operation sets a carry, overflow, zero or sign flag (R35). -/

namespace Sys2Proof.Machine

/-- `new_data <- 1`: every packet event, good or bad (R33). It does not count. -/
def State.setNewData (s : State) : State := { s with newData := true }

/-- `new_data <- 0`: RDALL, RDGYRO, RDEULER, and QNEW with its clear operand set (R33). -/
def State.clearNewData (s : State) : State := { s with newData := false }

/-- A good packet in the statistics: `good_cnt + 1` modulo 2^32, `t_good <- now`, `last_good <- 1` (R34, R36, R38, R115). -/
def State.recordGood (s : State) : State :=
  { s with goodCnt := s.goodCnt + 1, tGood := s.now, lastGood := true }

/-- A bad packet in the statistics: `bad_cnt + 1` modulo 2^32, `last_good <- 0` (R34, R37, R116). -/
def State.recordBad (s : State) : State := { s with badCnt := s.badCnt + 1, lastGood := false }

end Sys2Proof.Machine
end

