-- ==== Sys2Proof/Machine/Operands.lean ====
section
/-! DEFINITION. The operand forms of the operations (30_encoding.md R81): the mode byte of SETMODE, the clear bit of QNEW, the
implicit clock operand of AGE and BYTE. The byte of BYTE is used as it stands. -/

namespace Sys2Proof.Machine

/-- `ModeOf(m)`: 0, 1, 2 select ALL, GYRO, EULER; 3 to 255 are coerced to `DEFAULT_MODE` (R160, R92). -/
def modeOf (cfg : Config) (m : Byte) : DataMode :=
  if m = 0 then .all
  else if m = 1 then .gyro
  else if m = 2 then .euler
  else cfg.defaultMode

/-- The clear operand of QNEW is set (R166). -/
def clearRequested (c : BitVec 1) : Bool := c == 1#1

/-- `(now - t_good) mod 2^32` (R167). -/
def ageOf (now tGood : Word) : Word := now - tGood

end Sys2Proof.Machine
end

