-- ==== Sys2Proof/Machine/Ops.lean ====
section
/-! DEFINITION. The shared operations over the buffer and the state: reading and writing `buf` (20_memory.md R61, R65), the
framing state, the packet event that stands where another machine takes an exception (60_exceptions.md R216, R218),
and RESET (70_reset_and_hazards.md R230). There is no return operation (R219). -/

namespace Sys2Proof.Machine

/-! ## The buffer -/

/-- What an index the memory does not list reads as (assumption 7). -/
def Memory.unlisted : Byte := 0

/-- `buf[i]` (R14). -/
def Memory.read : Memory → Nat → Byte
  | [], _ => Memory.unlisted
  | (x, c) :: rest, i => if x = i then c else Memory.read rest i

/-- `buf[i] <- b` (R14, R65), keeping the canonical form: writing what an unlisted index reads as removes the entry. -/
def Memory.write : Memory → Nat → Byte → Memory
  | [], i, b => if b = Memory.unlisted then [] else [(i, b)]
  | (x, c) :: rest, i, b =>
    if i < x then
      if b = Memory.unlisted then (x, c) :: rest else (i, b) :: (x, c) :: rest
    else if i = x then
      if b = Memory.unlisted then rest else (i, b) :: rest
    else (x, c) :: Memory.write rest i b

/-- Every entry has index at least `lo` and below `BUF_CAP`, indices rise strictly, no entry reads as an unlisted one. -/
def Memory.wfFrom : Nat → Memory → Bool
  | _, [] => true
  | lo, (x, c) :: rest =>
    decide (lo ≤ x) && decide (x < bufCap) && decide (c ≠ Memory.unlisted) && Memory.wfFrom (x + 1) rest

/-- The canonical form (assumption 7): equal buffers are equal lists. -/
def Memory.wf (m : Memory) : Bool := Memory.wfFrom 0 m

/-- The canonical memory whose bytes from index `i` on are the given ones. -/
def Memory.ofBytesFrom : Nat → List Byte → Memory
  | _, [] => []
  | i, b :: rest =>
    if b = Memory.unlisted then Memory.ofBytesFrom (i + 1) rest else (i, b) :: Memory.ofBytesFrom (i + 1) rest

/-- The canonical memory of a whole buffer. -/
def Memory.ofVector (v : Vector Byte 30) : Memory := Memory.ofBytesFrom 0 v.toList

/-- One step of the source's shift-and-or loop: `v <- (v << 8) | byte`, the byte zero-extended (R61). -/
def shiftOr {n : Nat} (v : BitVec n) (b : Byte) : BitVec n := (v <<< 8) ||| b.setWidth n

/-- `MemRead(off, 2)`: most significant byte first (R60, R61). -/
def Memory.read2 (m : Memory) (off : Nat) : Half :=
  shiftOr (shiftOr 0 (m.read off)) (m.read (off + 1))

/-- `MemRead(off, 4)`: most significant byte first (R60, R61). -/
def Memory.read4 (m : Memory) (off : Nat) : Word :=
  shiftOr (shiftOr (shiftOr (shiftOr 0 (m.read off)) (m.read (off + 1))) (m.read (off + 2))) (m.read (off + 3))

/-! ## Framing state, results, registers -/

/-- `fs <- f` (R14). -/
def State.goto (s : State) (f : FramerState) : State := { s with fs := f }

/-- `fs <- SeekByte0`, `fill <- 0`: the partial reset of a packet event and of SETMODE (R232). The buffer is not
written (R29). -/
def State.clearFraming (s : State) : State := { s with fs := .seekByte 0, fill := 0 }

/-- `buf[fill] <- b ; fill <- fill + 1` (R65, R114). -/
def State.storePayload (s : State) (b : Byte) : State :=
  { s with buf := s.buf.write s.fill.toNat b, fill := s.fill + 1 }

/-- `mode <- m` (R161). -/
def State.setMode (s : State) (m : DataMode) : State := { s with mode := m }

/-- The SensorFrame registers take the values of `f`. -/
def State.writeFrame (s : State) (f : SensorFrame) : State := { s with frame := f }

/-- `res <- r` (R82). -/
def State.returns (s : State) (r : Result) : State := { s with res := r }

/-- The index BYTE stores its byte to, if it stores (R65 a, R113): the bound is tested before indexing (R67). -/
def State.storeIndex (s : State) : Option Nat :=
  match s.fs with
  | .seekByte _ => none
  | .collecting => if s.fill.toNat < payloadLen s.mode then some s.fill.toNat else none

/-! ## The packet event -/

/-- What a good and a bad packet have in common: `new_data <- 1`, `fill <- 0`, `fs <- SeekByte0`, `res <- 1`
(R115, R116, R216). It saves nothing and transfers control nowhere (R218). -/
def State.packetEvent (s : State) : State := (s.setNewData.clearFraming).returns (.evt true)

/-! ## Reads -/

/-- What RDALL returns (R163). -/
def SensorFrame.allPart (f : SensorFrame) : AllFrame := ⟨f.acc, f.mag, f.gyro, f.gyroI, f.gyroChk⟩

/-- What RDGYRO returns (R164). -/
def SensorFrame.gyroPart (f : SensorFrame) : GyroFrame := ⟨f.gyro, f.gyroI, f.gyroChk⟩

/-- The outputs the host sees at any time without side effect (R40). -/
structure Status where
  mode     : BitVec 2
  newData  : Bool
  lastGood : Bool
  goodCnt  : Word
  badCnt   : Word
  tGood    : Word
  deriving DecidableEq, Repr

/-- The status outputs of a state (R40). `fs`, `fill` and `buf` are not among them. -/
def State.status (s : State) : Status :=
  ⟨modeCode s.mode, s.newData, s.lastGood, s.goodCnt, s.badCnt, s.tGood⟩

/-! ## The input port -/

/-- Nothing presented: the block holds its state (R226). -/
def State.idle (s : State) : State := s

/-- The input in progress leaves the port. -/
def State.takeInput (s : State) (rest : List Input) : State := { s with port := rest }

/-- The clock input of the operation in progress (R39, R80). -/
def State.sampleClock (s : State) (now : Word) : State := { s with now := now }

/-- A reserved operation word changes no state of the block and returns no value (R91). -/
def State.reservedWord (s : State) : State := s.returns .unit

/-- RESET (R230): every specified element takes the value of R46, every unspecified one the value drawn. Parameters,
port and clock input are not state of the block and stay (R20). -/
def State.resetEvent (s : State) (d : ResetDraw) : State :=
  { s with
    fs := .seekByte 0, fill := 0, buf := Memory.ofVector d.buf, mode := s.cfg.defaultMode, newData := false,
    lastGood := false, goodCnt := 0, badCnt := 0, tGood := d.tGood, frame := d.frame, res := .unit }

end Sys2Proof.Machine
end

