-- ==== Sys2Proof/Machine/Access.lean ====
section
/-! DEFINITION. The accessor family (42_control_and_access.md R163 to R167). -/

namespace Sys2Proof.Machine

/-- RDALL (R163): whatever the current mode. -/
def execRdall (s : State) : Host.Outcome State Fault Refusal :=
  .next (s.clearNewData.returns (.all s.frame.allPart))

/-- RDGYRO (R164). -/
def execRdgyro (s : State) : Host.Outcome State Fault Refusal :=
  .next (s.clearNewData.returns (.gyro s.frame.gyroPart))

/-- RDEULER (R165). -/
def execRdeuler (s : State) : Host.Outcome State Fault Refusal :=
  .next (s.clearNewData.returns (.euler s.frame.euler))

/-- QNEW (R166): the result is the flag before any clearing. -/
def execQnew (c : BitVec 1) (s : State) : Host.Outcome State Fault Refusal :=
  .next ((if clearRequested c then s.clearNewData else s).returns (.flag s.newData))

/-- AGE (R167): nothing of the block is written. -/
def execAge (s : State) : Host.Outcome State Fault Refusal :=
  .next (s.returns (.age (ageOf s.now s.tGood)))

end Sys2Proof.Machine
end

