-- ==== Sys2Proof/Machine/Control.lean ====
section
/-! DEFINITION. The control family: SETMODE (42_control_and_access.md R160 to R162). -/

namespace Sys2Proof.Machine

/-- SETMODE (R161): the new mode, and framing state cleared, always. -/
def execSetmode (m : Byte) (s : State) : Host.Outcome State Fault Refusal :=
  .next (((s.setMode (modeOf s.cfg m)).clearFraming).returns .unit)

end Sys2Proof.Machine
end

