-- ==== Sys2Proof/Machine/Decoder.lean ====
section
/-! DEFINITION. The payload decoder (41_decoder.md R130 to R138): the two reconstruction primitives, the gyroscope path, and the
three decodes. It reads `mode` and `buf` only and never fails (R139). -/

namespace Sys2Proof.Machine

/-- `Wide(off)`: the pattern, bit for bit (R131). -/
def wide (m : Memory) (off : Nat) : Word := m.read4 off

/-- `signed16(v)` (R14). -/
def signed16 (v : Half) : Int := v.toInt

/-- `Narrow(off)` (R132). -/
def narrow (m : Memory) (off : Nat) : Int := signed16 (m.read2 off)

/-- `tdiv(a, b)`: the quotient rounded toward zero (R14). -/
def tdiv (a b : Int) : Int := Int.tdiv a b

/-- `trem(a, b)`: zero or with the sign of `a` (R14). -/
def trem (a b : Int) : Int := a - b * tdiv a b

/-- The pattern `(s << 31) | (E << 23) | F` (R133). -/
def packBinary32 (s e f : Nat) : Word :=
  (BitVec.ofNat 32 s <<< 31) ||| (BitVec.ofNat 32 e <<< 23) ||| BitVec.ofNat 32 f

/-- `GyroF(n)`: the binary32 pattern of `n / 256`, exact (R133). -/
def gyroF (n : Int) : Word :=
  if n = 0 then 0x00000000#32
  else
    let s := if n < 0 then 1 else 0
    let m := n.natAbs
    let e := Nat.log2 m
    packBinary32 s (e + 127 - 8) ((m - 2 ^ e) * 2 ^ (23 - e))

/-- `GyroI(n) = tdiv(25 n, 64)`, which is `(n / 256) * 100` truncated toward zero (R134). -/
def gyroI (n : Int) : Int := tdiv (25 * n) 64

/-- `GyroChk(i0, i1, i2) = trem(i0 + i1 + i2, 10)`, the sum formed without wrap-around (R135). -/
def gyroChk (i0 i1 i2 : Int) : Int := trem (i0 + i1 + i2) chkMod

/-- Three wide values. -/
def wideTriple (m : Memory) (offs : Triple Nat) : Triple Word := offs.map (wide m)

/-- Three narrow values. -/
def narrowTriple (m : Memory) (offs : Triple Nat) : Triple Int := offs.map (narrow m)

/-- The gyroscope registers from three narrow values: `gyro`, `gyro_i` and `gyro_chk` of the new `gyro_i` (R136, R137). -/
def writeGyro (n : Triple Int) (f : SensorFrame) : SensorFrame :=
  { f with
    gyro := n.map gyroF
    gyroI := n.map fun v => BitVec.ofInt 16 (gyroI v)
    gyroChk := BitVec.ofInt 8 (gyroChk (gyroI n.x) (gyroI n.y) (gyroI n.z)) }

/-- `DecodeAll` (R136): `euler` is left unchanged. -/
def decodeAll (m : Memory) (f : SensorFrame) : SensorFrame :=
  writeGyro (narrowTriple m layouts.allGyro)
    { f with acc := wideTriple m layouts.allAcc, mag := wideTriple m layouts.allMag }

/-- `DecodeGyro` (R137): `acc`, `mag`, `euler` are left unchanged. -/
def decodeGyro (m : Memory) (f : SensorFrame) : SensorFrame := writeGyro (narrowTriple m layouts.gyro) f

/-- `DecodeEuler` (R138): only `euler` is written. -/
def decodeEuler (m : Memory) (f : SensorFrame) : SensorFrame := { f with euler := wideTriple m layouts.euler }

/-- `Decode(mode, buf)` (R130): the registers the mode does not define keep their values (R41). -/
def decodePayload (mode : DataMode) (m : Memory) (f : SensorFrame) : SensorFrame :=
  match mode with
  | .all => decodeAll m f
  | .gyro => decodeGyro m f
  | .euler => decodeEuler m f

end Sys2Proof.Machine
end

