-- ==== Sys2Proof/Machine/Framer.lean ====
section
/-! DEFINITION. The framer family: BYTE (40_framer.md R110 to R116). -/

namespace Sys2Proof.Machine

/-- `SeekByte k` after a match: `SeekByte (k+1)`, or `Collecting` after the fourth (R111). -/
def nextSeek (k : Fin 4) : FramerState :=
  if h : k.val < 3 then .seekByte ⟨k.val + 1, Nat.succ_lt_succ h⟩ else .collecting

/-- A byte in `SeekByte k`: match (R111) or desync (R112). The mismatching byte is not compared with `MAGIC[0]`. -/
def State.seekStep (s : State) (k : Fin 4) (b : Byte) : State :=
  (s.goto (if b = s.cfg.magic[k] then nextSeek k else .seekByte 0)).returns (.evt false)

/-- A good packet: decode, count, timestamp, then the packet event (R115). -/
def State.goodPacket (s : State) : State :=
  ((s.writeFrame (decodePayload s.mode s.buf s.frame)).recordGood).packetEvent

/-- A bad packet: count, then the packet event; no decode (R116). -/
def State.badPacket (s : State) : State := s.recordBad.packetEvent

/-- A byte in `Collecting`: payload while `fill < L(mode)`, else the terminator (R113 to R116). -/
def State.collectStep (s : State) (b : Byte) : State :=
  if s.fill.toNat < payloadLen s.mode then (s.storePayload b).returns (.evt false)
  else if b = termByte then s.goodPacket
  else s.badPacket

/-- `BYTE(b, now)` (R110). -/
def State.consumeByte (s : State) (b : Byte) : State :=
  match s.fs with
  | .seekByte k => s.seekStep k b
  | .collecting => s.collectStep b

/-- BYTE (R110). It cannot fail. -/
def execByte (b : Byte) (s : State) : Host.Outcome State Fault Refusal := .next (s.consumeByte b)

end Sys2Proof.Machine
end

