-- ==== Sys2Proof/Machine/Dispatch.lean ====
section
/-! DEFINITION. One arm per operation of the opcode table (30_encoding.md R81). -/

namespace Sys2Proof.Machine

def exec (i : Instr) (s : State) : Host.Outcome State Fault Refusal :=
  match i with
  | .byte b => Sys2Proof.Machine.execByte b s
  | .setmode m => Sys2Proof.Machine.execSetmode m s
  | .rdall => Sys2Proof.Machine.execRdall s
  | .rdgyro => Sys2Proof.Machine.execRdgyro s
  | .rdeuler => Sys2Proof.Machine.execRdeuler s
  | .qnew c => Sys2Proof.Machine.execQnew c s
  | .age => Sys2Proof.Machine.execAge s

end Sys2Proof.Machine
end

