-- ==== Sys2Proof/Machine/Step.lean ====
section
/-! DEFINITION. One step: the block performs the oldest input on its port (20_memory.md R68), or holds its state (R226). -/

namespace Sys2Proof.Machine

/-- An operation word: the operation it stands for, or, for a reserved word, no change (R91). -/
def performWord (w : OpWord) (s : State) : Host.Outcome State Fault Refusal :=
  match decode w with
  | .ok i => exec i s
  | .error _ => .next s.reservedWord

/-- `step(state, op, now) = (state', res)` (R16), the inputs taken from `port` (assumption 1). -/
def step (s : State) : Host.Outcome State Fault Refusal :=
  match s.port with
  | [] => .next s.idle
  | .rst d :: rest => .next ((s.takeInput rest).resetEvent d)
  | .op w now :: rest => performWord w ((s.takeInput rest).sampleClock now)

/-- The state after `k` steps: the fold of the step function (R68). -/
def runSteps : Nat → State → Host.Outcome State Fault Refusal
  | 0, s => .next s
  | k + 1, s =>
    match step s with
    | .next t => runSteps k t
    | .fault r => .fault r
    | .refused r => .refused r

/-- The operation word `w` presented as the next input, with the clock as it stands (assumptions 3, 9, 10). -/
def State.withFetchWord (s : State) (_nbits w : Nat) : State :=
  { s with port := .op (BitVec.ofNat 11 w) s.now :: s.port }

end Sys2Proof.Machine
end

