-- ==== Sys2Proof/Machine/Binary32.lean ====
section
/-! DEFINITION. How a 32-bit pattern is read as an IEEE-754 binary32 value (30_encoding.md R90 b). The block stores patterns and
never computes with them (41_decoder.md R141); this reading is for statements. -/

namespace Sys2Proof.Machine

/-- Bit 31 (R90). -/
def Binary32.sign (w : Word) : BitVec 1 := w.extractLsb' 31 1

/-- Bits 30 to 23, biased by 127 (R90). -/
def Binary32.exponent (w : Word) : BitVec 8 := w.extractLsb' 23 8

/-- Bits 22 to 0 (R90). -/
def Binary32.fraction (w : Word) : BitVec 23 := w.extractLsb' 0 23

/-- Exponent 255, fraction not 0 (R90). -/
def Binary32.isNaN (w : Word) : Bool := Binary32.exponent w == 255#8 && Binary32.fraction w != 0#23

/-- Exponent 255, fraction 0 (R90). -/
def Binary32.isInfinite (w : Word) : Bool := Binary32.exponent w == 255#8 && Binary32.fraction w == 0#23

/-- Exponent 0, fraction not 0 (R90). -/
def Binary32.isSubnormal (w : Word) : Bool := Binary32.exponent w == 0#8 && Binary32.fraction w != 0#23

/-- Bit 31 set and every other bit clear. -/
def Binary32.isNegativeZero (w : Word) : Bool := w == 0x80000000#32

/-- The magnitude in units of 2^-149: the fraction, with the hidden bit of a normal number. -/
def Binary32.significand (w : Word) : Nat :=
  if Binary32.exponent w = 0 then (Binary32.fraction w).toNat else 2 ^ 23 + (Binary32.fraction w).toNat

/-- The real number a finite pattern stands for; it is rational (R90). -/
def Binary32.value (w : Word) : Rat :=
  let magnitude : Rat :=
    (Binary32.significand w : Rat) * 2 ^ (max (Binary32.exponent w).toNat 1) / 2 ^ 150
  if Binary32.sign w = 1 then -magnitude else magnitude

end Sys2Proof.Machine
end

