-- ==== Sys2Proof/Machine/Session.lean ====
section
/-! DEFINITION. The host above the block: the Device Session and the Configuration Controller over a transport
(43_host_environment.md R180 to R199). It drives the block through its operations only; none of it is state of the block
(R20, R180; assumption 15). -/

namespace Sys2Proof.Machine

/-- The two settle delays; their lengths are not given (R193, N12). -/
inductive Settle where
  | long
  | short
  deriving DecidableEq, Repr

/-- What the host does to the transport (R181). -/
inductive HostAction where
  | write (bytes : List Byte)
  | flush
  | close
  | settle (d : Settle)
  | openAt (rate : Nat)
  deriving DecidableEq, Repr

/-- A table the lookup of R193 may be: nine rates, all different, from 2400 through 115200, in a non-uniform progression
(equally spaced rates would be 14100 apart). The seven rates between the ends and which identifier each rate has are
not given (N11): every such table is admitted. Entry `i` is the rate of the identifier `i + 1` (R189; assumption 16). -/
structure BaudTable where
  rates      : Vector Nat 9
  distinct   : rates.toList.Nodup
  lowest     : 2400 ∈ rates.toList
  highest    : 115200 ∈ rates.toList
  within     : ∀ r ∈ rates.toList, 2400 ≤ r ∧ r ≤ 115200
  nonUniform : ∃ r ∈ rates.toList, ¬ 14100 ∣ r - 2400
  deriving DecidableEq, Repr

/-- LinkState: host state, not block state (R183). The mirrored mode is the block's `mode`. DESIGN CHOICE (assumption 16):
R183 gives no widths; the mirrored interval is 16 bits, as many as the two bytes R190 sends, and the mirrored baud
identifier is one of the nine of R193, or none. -/
structure LinkState where
  isOpen     : Bool
  baud       : Option (Fin 9)
  interval   : BitVec 16
  continuous : Bool
  deriving DecidableEq, Repr

/-- A session: the block it owns, its fixed table of rates (R193; no operation changes it), its link state, the bytes
waiting in the transport, each with the clock value of the BYTE operation that will take it, and what it did to the
transport, oldest first (R180, R181; assumption 17). -/
structure Session where
  block   : State
  table   : BaudTable
  link    : LinkState
  rx      : List (Byte × Word)
  actions : List HostAction
  deriving DecidableEq, Repr

/-- A session as it is created: closed, nothing done to the transport yet. The other fields of LinkState have no stated
initial value (R183; assumption 16). -/
def Session.Created (h : Session) : Prop := h.link.isOpen = false ∧ h.actions = []

/-! ## Presenting operations -/

/-- The block after one operation at a clock value (R196, R197: one at a time). -/
def performAt (i : Instr) (now : Word) (s : State) : State :=
  match exec i (s.sampleClock now) with
  | .next t => t
  | .fault _ => s
  | .refused _ => s

/-- The session after one operation that uses no new clock value (R95). -/
def Session.perform (i : Instr) (h : Session) : Session := { h with block := performAt i h.block.now h.block }

/-- The session after it did one thing to the transport. -/
def Session.act (a : HostAction) (h : Session) : Session := { h with actions := h.actions ++ [a] }

/-! ## Bytes of the command protocol (R189, R199) -/

/-- `#` and a command character, then its argument bytes. -/
def command (c : Byte) (args : List Byte) : HostAction := .write (0x23#8 :: c :: args)

/-- The mode byte of `#m`: the value or its ASCII digit, which the source does not say (N13). -/
def modeArgument (m : DataMode) : Byte := if Config.modeByteIsAscii then 0x30#8 + modeNumber m else modeNumber m

/-- The identifier of `#b`, 1 to 9: the value or its ASCII digit, which the source does not say (N13). -/
def baudArgument (i : Fin 9) : Byte :=
  if Config.baudIdIsAscii then BitVec.ofNat 8 (0x31 + i.val) else BitVec.ofNat 8 (1 + i.val)

/-- The identifier of a rate, none where the table does not support the rate (R193). -/
def BaudTable.identifier (t : BaudTable) (rate : Nat) : Option (Fin 9) :=
  (List.finRange 9).find? fun i => t.rates[i] == rate

/-! ## Polling (R184 to R187) -/

/-- Did the last operation report a packet event (R82)? -/
def State.reportedEvent (s : State) : Bool := s.res == .evt true

/-- BYTE operations until a packet event fires or no byte is left: the answer, the bytes left, the block (R184). -/
def drainBytes : List (Byte × Word) → State → Bool × List (Byte × Word) × State
  | [], s => (false, [], s)
  | (b, now) :: rest, s =>
    let t := performAt (.byte b) now s
    if t.reportedEvent then (true, rest, t) else drainBytes rest t

/-- `poll(drainAll)` (R184). -/
def Session.poll (drainAll : Bool) (h : Session) : Bool × Session :=
  if drainAll then
    let r := drainBytes h.rx h.block
    (r.1, { h with rx := r.2.1, block := r.2.2 })
  else
    match h.rx with
    | [] => (false, h)
    | (b, now) :: rest =>
      let t := performAt (.byte b) now h.block
      (t.reportedEvent, { h with rx := rest, block := t })

/-- `setDataMode(m, force)` (R188): SETMODE always, then the command if forced or the coerced mode differs (D28). -/
def Session.setDataMode (m : Byte) (force : Bool) (h : Session) : Session :=
  let new := modeOf h.block.cfg m
  let h' := h.perform (.setmode m)
  if force ∨ new ≠ h.block.mode then h'.act (command 0x6D#8 [modeArgument new]) else h'

/-- `requestFrame(mode)` (R187). -/
def Session.requestFrame (m : Byte) (h : Session) : Session := (h.setDataMode m false).act (command 0x66#8 [])

/-- `pollValid(drainAll)` (R186): after a bad packet it clears `new_data` and, unless streaming, asks for one frame of
the current mode (D28). -/
def Session.pollValid (drainAll : Bool) (h : Session) : Bool × Session :=
  let r := h.poll drainAll
  if !r.1 then (false, r.2)
  else if r.2.block.lastGood then (true, r.2)
  else
    let q := r.2.perform (.qnew 1)
    (false, if q.link.continuous then q else q.requestFrame (modeNumber q.block.mode))

/-! ## Configuration (R190 to R194) -/

/-- `setUpdateInterval` (R190): two bytes, most significant first. -/
def Session.setUpdateInterval (interval : BitVec 16) (h : Session) : Session :=
  let h' := h.act (command 0x69#8 [interval.extractLsb' 8 8, interval.extractLsb' 0 8])
  { h' with link := { h'.link with interval := interval } }

/-- `setContinuousStream` (R191): `#o1` or `#o0`. -/
def Session.setContinuousStream (enabled : Bool) (h : Session) : Session :=
  let h' := h.act (command 0x6F#8 [if enabled then 0x31#8 else 0x30#8])
  { h' with link := { h'.link with continuous := enabled } }

/-- `zeroCalibrate` (R192): `#z`; no local state changes. -/
def Session.zeroCalibrate (h : Session) : Session := h.act (command 0x7A#8 [])

/-- close, settle, reopen, settle (R193). -/
def reopenActions (rate : Nat) (internal : Bool) : List HostAction :=
  [.close, .settle (if internal then .short else .long), .openAt rate, .settle .short]

/-- `setBaudRate(newRate, internal)` (R193): a no-op for an unsupported rate; the block is not reset (R245). -/
def Session.setBaudRate (rate : Nat) (internal : Bool) (h : Session) : Session :=
  match h.table.identifier rate with
  | none => h
  | some i =>
    { h with
      actions := h.actions ++ (if internal then [] else [command 0x62#8 [baudArgument i]]) ++
        (.flush :: reopenActions rate internal)
      link := { h.link with baud := some i } }

/-- `begin` (R194): no-op if open; opens at the initial rate; changes to a different, supported final rate with the
'not internal' timing; then open. DESIGN CHOICE (assumption 16): where it stays at the initial rate it mirrors that rate's
identifier, none where the table does not support the initial rate; the spec does not say what is mirrored there. -/
def Session.start (initial final : Nat) (h : Session) : Session :=
  if h.link.isOpen then h
  else
    let opened := h.act (.openAt initial)
    let atRate (i : Option (Fin 9)) (as : List HostAction) : Session :=
      { opened with actions := opened.actions ++ as, link := { opened.link with isOpen := true, baud := i } }
    if final = initial then atRate (h.table.identifier initial) []
    else
      match h.table.identifier final with
      | none => atRate (h.table.identifier initial) []
      | some i =>
        atRate (some i)
          ((if Config.beginTellsDevice then [command 0x62#8 [baudArgument i]] else []) ++
            (if Config.beginFlushes then [.flush] else []) ++ reopenActions final false)

end Sys2Proof.Machine
end

