-- ==== Sys2Proof/Machine/Trace.lean ====
section
/-! DEFINITION. The trace notation's operations and pseudo-operations as inputs of the block (30_encoding.md R95, R96), and the wire
frame they send (R84). -/

namespace Sys2Proof.Machine

/-- One operation with its clock value, as the host presents it (R95). -/
def present (i : Instr) (now : Word) : Input := .op (encode i) now

/-- `BYTES b0 … bk`, each byte with the clock value of its operation (R96). -/
def presentBytes (bs : List (Byte × Word)) : List Input := bs.map fun p => present (.byte p.1) p.2

/-- Bytes that share one clock value. -/
def atTime (now : Word) (bs : List Byte) : List (Byte × Word) := bs.map fun b => (b, now)

/-- The bytes of a frame on the wire: magic, payload, terminator (R84). -/
def frameBytes (cfg : Config) (payload : List Byte) (t : Byte) : List Byte := cfg.magic.toList ++ payload ++ [t]

/-- `MAGIC` (R96). -/
def presentMagic (cfg : Config) (now : Word) : List Input := presentBytes (atTime now cfg.magic.toList)

/-- `FRAME p / T` (R96). -/
def presentFrame (cfg : Config) (payload : List Byte) (t : Byte) (now : Word) : List Input :=
  presentBytes (atTime now (frameBytes cfg payload t))

/-- `GOODFRAME p` (R96). -/
def presentGoodFrame (cfg : Config) (payload : List Byte) (now : Word) : List Input :=
  presentFrame cfg payload termByte now

/-- `SETMODE ALL`, `SETMODE GYRO`, `SETMODE EULER` (R96). -/
def presentMode (m : DataMode) (now : Word) : Input := present (.setmode (modeNumber m)) now

/-- `CLRNEW` (R96). -/
def presentClrnew (now : Word) : Input := present (.qnew 1) now

end Sys2Proof.Machine
end

