-- ==== Sys2Proof/Machine/Events.lean ====
section
/-! DEFINITION. The error classes of 60_exceptions.md R211 to R215: which one an operation meets in a state. They are labels: the
block keeps no record of them and raises nothing (R210, R215; assumption 14). -/

namespace Sys2Proof.Machine

/-- The labels of R211 to R214. -/
inductive ErrorClass where
  /-- `E_DESYNC`: a byte that differs from `MAGIC[k]` in `SeekByte k` (R211). -/
  | desync
  /-- `E_BADPKT`: a terminator that is not `0x0A` (R212). -/
  | badpkt
  /-- `E_BADMODE`: SETMODE with an operand above 2 (R213). -/
  | badmode
  /-- `E_OVERRUN`: a store outside the buffer; never met (R214). -/
  | overrun
  deriving DecidableEq, Repr

/-- The error class BYTE meets (R211, R212, R214). -/
def byteError (b : Byte) (s : State) : Option ErrorClass :=
  match s.storeIndex with
  | some i => if i < bufCap then none else some .overrun
  | none =>
    match s.fs with
    | .seekByte k => if b = s.cfg.magic[k] then none else some .desync
    | .collecting => if b = termByte then none else some .badpkt

/-- The error class an operation meets; at most one (R217). -/
def errorMet (i : Instr) (s : State) : Option ErrorClass :=
  match i with
  | .byte b => byteError b s
  | .setmode m => if 2 < m.toNat then some .badmode else none
  | .rdall => none
  | .rdgyro => none
  | .rdeuler => none
  | .qnew _ => none
  | .age => none

end Sys2Proof.Machine
end

