-- ==== Sys2Proof/Safety.lean ====
section
/-! DEFINITION. What the claims call a good state: the invariants of 10_state.md R26 and R28 with the canonical form of the
buffer, the equivalence of states that differ in stale bytes only (R29, R30), and how far into a frame a state is (R122). -/

namespace Sys2Proof.Machine

/-- R26: outside `Collecting` the fill count is 0. -/
def State.FillZeroOutsideCollecting (s : State) : Prop := s.fs ≠ .collecting → s.fill = 0

/-- R28: the fill count never exceeds the active mode's payload length. -/
def State.FillBounded (s : State) : Prop := s.fill.toNat ≤ payloadLen s.mode

/-- The invariant every step keeps. -/
structure State.Inv (s : State) : Prop where
  bufCanonical : s.buf.wf = true
  fillZero     : s.FillZeroOutsideCollecting
  fillBounded  : s.FillBounded

/-- The bytes of the frame in progress agree: those below the fill count while `Collecting` (R30). -/
def SameLiveBytes (s t : State) : Prop :=
  s.fs = .collecting → ∀ i, i < s.fill.toNat → s.buf.read i = t.buf.read i

/-- The states differ in stale bytes of the buffer only (R29, R30). -/
def SameButStale (s t : State) : Prop := { s with buf := [] } = { t with buf := [] } ∧ SameLiveBytes s t

/-- How many bytes of the frame in progress are consumed: magic bytes, then payload bytes (R23, R25). -/
def State.progress (s : State) : Nat :=
  match s.fs with
  | .seekByte k => k.val
  | .collecting => 4 + s.fill.toNat

/-- The next input is RESET (R83). -/
def State.AtReset (s : State) : Prop := ∃ d rest, s.port = .rst d :: rest

/-- The next input is the word `w`. -/
def State.AtWord (s : State) (w : OpWord) : Prop := ∃ now rest, s.port = .op w now :: rest

/-- The framer stands at the terminator position (R113). -/
def State.AwaitsTerminator (s : State) : Prop := s.fs = .collecting ∧ payloadLen s.mode ≤ s.fill.toNat

/-- The next input completes a good packet: `BYTE 0x0A`, the word 0x00A, at the terminator position (R115). -/
def State.AtGoodPacket (s : State) : Prop := s.AwaitsTerminator ∧ s.AtWord 0x00A#11

/-- The next input completes a bad packet: BYTE with any other byte at the terminator position (R116). -/
def State.AtBadPacket (s : State) : Prop :=
  s.AwaitsTerminator ∧ ∃ b : Byte, b ≠ 0x0A#8 ∧ s.AtWord (0#3 ++ b)

/-- The states reachable from reset by steps, the host presenting any inputs at any time (R16, R197). -/
inductive Reachable : State → Prop where
  /-- right after reset, with any inputs presented -/
  | reset (ins : List Input) : Reachable { State.reset with port := ins }
  /-- one step -/
  | step {s t : State} : Reachable s → Machine.step s = .next t → Reachable t
  /-- the host presents more -/
  | present {s : State} (ins : List Input) : Reachable s → Reachable { s with port := s.port ++ ins }

end Sys2Proof.Machine
end

