-- ==== Sys2Proof/Certificates/Slice0/Obligations.lean ====
section
/-! DEFINITION. The statements about the block and its host, for the provers. Each says in its docstring which rule of the spec
it formalises; where a clause rests on a decision of the spec or of this model, the docstring names it. -/

open Sys2Proof Sys2Proof.Machine

/-! ## Encodings -/

/-- 30_encoding.md section 1 (the encoding is decision D2): decoding the word of an operation gives the operation back. -/
def Obligations.DecodeInvertsEncode : Prop :=
  ∀ i : Instr, i.wellFormed = true → decode (encode i) = .ok i

/-- 30_encoding.md section 1 (decision D2): each word has one meaning, so a decoded operation encodes to its word. -/
def Obligations.EncodeInvertsDecode : Prop :=
  ∀ (w : OpWord) (i : Instr), decode w = .ok i → encode i = w

/-- 30_encoding.md sections 1 and 4 (decisions D2, D16): the decoder accepts exactly the words some row of the opcode
map covers, and no word is covered by two rows. -/
def Obligations.DecoderAcceptsExactlyTheOpcodeMap : Prop :=
  (∀ w : OpWord, (∃ i, decode w = .ok i) ↔ wordWellFormed w = true) ∧
  ∀ w : OpWord, (opRows.filter fun r => r.covers w).length ≤ 1

/-- 30_encoding.md section 1, the opcode map (decision D2): words written out bit by bit, one for each operation. -/
def Obligations.WrittenOutWordsDecode : Prop :=
  decode 0b00010100101#11 = .ok (.byte 0xA5#8) ∧ decode 0b00100000010#11 = .ok (.setmode 0x02#8) ∧
  decode 0b01000000000#11 = .ok .rdall ∧ decode 0b01000000001#11 = .ok .rdgyro ∧
  decode 0b01000000010#11 = .ok .rdeuler ∧ decode 0b01100000001#11 = .ok (.qnew 1#1) ∧
  decode 0b01100000000#11 = .ok (.qnew 0#1) ∧ decode 0b10000000000#11 = .ok .age

/-- 30_encoding.md section 4 (decision D16) and log 8: a reserved word, by the list of R91, changes no state of the
block and returns no value; only the port, the sampled clock and the result port, the model's own fields, move. -/
def Obligations.ReservedWordChangesNothing : Prop :=
  ∀ (s : State) (op : BitVec 3) (data : Byte) (now : Word) (rest : List Input),
    (5 ≤ op.toNat ∨ (op = 2#3 ∧ 3 ≤ data.toNat) ∨ (op = 3#3 ∧ 2 ≤ data.toNat) ∨ (op = 4#3 ∧ 1 ≤ data.toNat)) →
    s.port = .op (op ++ data) now :: rest →
    step s = .next { s with port := rest, now := now, res := .unit }

/-! ## The step -/

/-- 30_encoding.md section 1, 20_memory.md section 6 and log 1: when the next word decodes to an operation, the step is
exactly that operation on the state with the input taken from the port and the clock sampled. -/
def Obligations.StepRunsDecodedOperation : Prop :=
  ∀ (s : State) (w : OpWord) (now : Word) (rest : List Input) (i : Instr),
    s.port = .op w now :: rest → decode w = .ok i → step s = exec i { s with port := rest, now := now }

/-- 60_exceptions.md section 10 and log 1: with nothing presented the block holds its state. -/
def Obligations.IdleStepHoldsState : Prop := ∀ s : State, s.port = [] → step s = .next s

/-- 60_exceptions.md section 1 (R210): every operation in every state answers a next state. That every step does as well
rests on this model's choices for a reserved word (log 8: R91 taken literally, where U1 lets a model refuse) and for an
empty port (log 1). -/
def Obligations.EveryOperationAnswersNextState : Prop :=
  (∀ (i : Instr) (s : State), ∃ t, exec i s = .next t) ∧ ∀ s : State, ∃ t, step s = .next t

/-! ## Reset -/

/-- 70_reset_and_hazards.md section 1 (decision D14) and log 5: RESET puts every specified element at its value and
every unspecified one at the value drawn, whatever is drawn. -/
def Obligations.ResetEventInitialises : Prop :=
  ∀ (s : State) (d : ResetDraw) (rest : List Input), s.port = .rst d :: rest →
    ∃ t, step s = .next t ∧ t.fs = .seekByte 0 ∧ t.fill = 0 ∧ t.mode = s.cfg.defaultMode ∧ t.newData = false ∧
      t.lastGood = false ∧ t.goodCnt = 0 ∧ t.badCnt = 0 ∧ t.tGood = d.tGood ∧ t.frame = d.frame ∧
      (∀ (i : Nat) (h : i < 30), t.buf.read i = d.buf[i]) ∧
      t.cfg = s.cfg ∧ t.port = rest ∧ t.now = s.now ∧ t.res = .unit

/-- 10_state.md section 8 (decisions D6, D14): the specified elements of the state right after reset. -/
def Obligations.ResetStateHasSpecifiedValues : Prop :=
  State.reset.fs = .seekByte 0 ∧ State.reset.fill = 0 ∧ State.reset.mode = .all ∧ State.reset.newData = false ∧
  State.reset.lastGood = false ∧ State.reset.goodCnt = 0 ∧ State.reset.badCnt = 0

/-! ## The framer: BYTE -/

/-- R111: a matching byte in `SeekByte k` advances the framer; nothing else changes; the result is 0. -/
def Obligations.SeekMatchAdvances : Prop :=
  ∀ (s : State) (k : Fin 4) (b : Byte), s.fs = .seekByte k → b = s.cfg.magic[k] →
    exec (.byte b) s = .next { s with
      fs := (match k with | 0 => .seekByte 1 | 1 => .seekByte 2 | 2 => .seekByte 3 | 3 => .collecting)
      res := .evt false }

/-- R112: a mismatching byte returns the framer to `SeekByte0`, whatever its value; nothing else changes. -/
def Obligations.SeekMismatchRestarts : Prop :=
  ∀ (s : State) (k : Fin 4) (b : Byte), s.fs = .seekByte k → b ≠ s.cfg.magic[k] →
    exec (.byte b) s = .next { s with fs := .seekByte 0, res := .evt false }

/-- R114: a payload byte is stored at the fill count, whatever its value, and the fill count advances by one. -/
def Obligations.PayloadByteIsStored : Prop :=
  ∀ (s : State) (b : Byte), s.fs = .collecting → s.fill.toNat < payloadLen s.mode →
    exec (.byte b) s = .next { s with
      buf := s.buf.write s.fill.toNat b, fill := s.fill + 1, res := .evt false } ∧
    (s.fill + 1).toNat = s.fill.toNat + 1 ∧
    (s.buf.wf = true → (s.buf.write s.fill.toNat b).read s.fill.toNat = b ∧
      ∀ i, i ≠ s.fill.toNat → (s.buf.write s.fill.toNat b).read i = s.buf.read i)

/-- 40_framer.md section 2 (R115): `0x0A` at the terminator position is a good packet: decode, count, timestamp, flags,
framer restart. That the timestamp is the clock value of this operation is the spec's decision D24, that the 32-bit count
wraps its decision D13 (log 18). -/
def Obligations.GoodPacketCompletes : Prop :=
  ∀ s : State, s.fs = .collecting → payloadLen s.mode ≤ s.fill.toNat →
    exec (.byte 0x0A#8) s = .next { s with
      frame := decodePayload s.mode s.buf s.frame, goodCnt := s.goodCnt + 1, tGood := s.now, lastGood := true,
      newData := true, fill := 0, fs := .seekByte 0, res := .evt true }

/-- 40_framer.md section 2 (R116): any other byte at the terminator position is a bad packet: counted and flagged, not
decoded. That the 32-bit count wraps is the spec's decision D13 (log 18). -/
def Obligations.BadPacketCompletes : Prop :=
  ∀ (s : State) (b : Byte), s.fs = .collecting → payloadLen s.mode ≤ s.fill.toNat → b ≠ 0x0A#8 →
    exec (.byte b) s = .next { s with
      badCnt := s.badCnt + 1, lastGood := false, newData := true, fill := 0, fs := .seekByte 0, res := .evt true }

/-- R118: the result of BYTE is 1 at the terminator position for both kinds of packet, and 0 everywhere else. -/
def Obligations.EventResultDoesNotTellGoodFromBad : Prop :=
  ∀ (s t : State) (b : Byte), exec (.byte b) s = .next t →
    (s.AwaitsTerminator → t.res = .evt true ∧ t.lastGood = decide (b = 0x0A#8)) ∧
    (¬ s.AwaitsTerminator → t.res = .evt false ∧ t.lastGood = s.lastGood)

/-- 40_framer.md section 3 (R119, derived there) and section 1: what BYTE leaves unchanged. In `Collecting` below the
payload length it stores one byte at the fill count; every other byte of the buffer, and in every other case every
byte, reads as before. -/
def Obligations.ByteFrame : Prop :=
  ∀ (s t : State) (b : Byte), s.buf.wf = true → exec (.byte b) s = .next t →
    t.mode = s.mode ∧ t.cfg = s.cfg ∧ t.port = s.port ∧ t.now = s.now ∧ (s.newData = true → t.newData = true) ∧
    (s.fs = .collecting ∧ s.fill.toNat < payloadLen s.mode →
      ∀ i, i ≠ s.fill.toNat → t.buf.read i = s.buf.read i) ∧
    (¬ (s.fs = .collecting ∧ s.fill.toNat < payloadLen s.mode) → ∀ i, t.buf.read i = s.buf.read i) ∧
    (¬ s.AwaitsTerminator → t.newData = s.newData ∧ t.lastGood = s.lastGood ∧ t.badCnt = s.badCnt) ∧
    (¬ (s.AwaitsTerminator ∧ b = 0x0A#8) → t.goodCnt = s.goodCnt ∧ t.tGood = s.tGood ∧ t.frame = s.frame) ∧
    (s.AwaitsTerminator ∧ b = 0x0A#8 → t.badCnt = s.badCnt) ∧
    (s.fs ≠ .collecting → t.fill = s.fill)

/-- R29: a packet event and SETMODE reset the buffer by zeroing the fill count and nothing more, and whatever the
operation, the bytes at and above the fill count it leaves keep what they held. -/
def Obligations.BufferIsNeverCleared : Prop :=
  (∀ (i : Instr) (s t : State), s.buf.wf = true → exec i s = .next t →
    ∀ a, t.fill.toNat ≤ a → t.buf.read a = s.buf.read a) ∧
  (∀ (s t : State) (b : Byte), s.AwaitsTerminator → exec (.byte b) s = .next t → t.fill = 0 ∧ t.buf = s.buf) ∧
  ∀ (s t : State) (m : Byte), exec (.setmode m) s = .next t → t.fill = 0 ∧ t.buf = s.buf

/-- 40_framer.md section 3 (R124, derived there): with `MAGIC[0]` and `MAGIC[1]` different, a repeated first magic byte
makes the framer miss the magic sequence that follows. -/
def Obligations.RepeatedFirstMagicByteMissesFrame : Prop :=
  ∀ (s : State) (now : Word) (rest : List Input), s.fs = .seekByte 0 → s.cfg.magic[0] ≠ s.cfg.magic[1] →
    s.port = presentBytes (atTime now (s.cfg.magic[0] :: s.cfg.magic.toList)) ++ rest →
    ∃ t, runSteps 5 s = .next t ∧ t.fs ≠ .collecting ∧ t.port = rest

/-! ## The buffer -/

/-- R61: two and four bytes are read most significant byte first, each byte zero-extended. -/
def Obligations.MemReadIsBigEndian : Prop :=
  ∀ (m : Memory) (off : Nat),
    (m.read2 off).toNat = (m.read off).toNat * 2 ^ 8 + (m.read (off + 1)).toNat ∧
    (m.read4 off).toNat = (m.read off).toNat * 2 ^ 24 + (m.read (off + 1)).toNat * 2 ^ 16 +
      (m.read (off + 2)).toNat * 2 ^ 8 + (m.read (off + 3)).toNat

/-- Log 7 (the model's form of the buffer): two canonical buffers that read the same at every index of the address
space are the same data. -/
def Obligations.CanonicalBuffersAreEqual : Prop :=
  ∀ m m' : Memory, m.wf = true → m'.wf = true → (∀ i, i < 30 → m.read i = m'.read i) → m = m'

/-! ## The decoder -/

/-- R132: a narrow value is the 16-bit word read as two's complement. -/
def Obligations.NarrowValueIsSigned : Prop :=
  ∀ (m : Memory) (off : Nat),
    let u : Int := (m.read off).toNat * 256 + (m.read (off + 1)).toNat
    narrow m off = (if u < 32768 then u else u - 65536) ∧ -32768 ≤ narrow m off ∧ narrow m off ≤ 32767

/-- 41_decoder.md section 2 (R133; its exactness is derived there) and 30_encoding.md section 3 (R90, G1): the pattern
of `GyroF(n)` has the fields the rule gives. -/
def Obligations.GyroFloatFields : Prop :=
  gyroF 0 = 0x00000000#32 ∧
  ∀ (n : Int) (e : Nat), -32768 ≤ n → n ≤ 32767 → n ≠ 0 → 2 ^ e ≤ n.natAbs → n.natAbs < 2 ^ (e + 1) →
    Binary32.sign (gyroF n) = (if n < 0 then 1 else 0) ∧
    (Binary32.exponent (gyroF n)).toNat + 8 = e + 127 ∧
    (Binary32.fraction (gyroF n)).toNat = (n.natAbs - 2 ^ e) * 2 ^ (23 - e)

/-- 41_decoder.md section 2 (R133, derived there), 10_state.md section 7 (R43): the gyroscope float is exactly
`n / 256`, never a NaN, an infinity, a subnormal or negative zero. -/
def Obligations.GyroFloatIsExact : Prop :=
  ∀ h : Half,
    Binary32.value (gyroF (signed16 h)) = (signed16 h : Rat) / 256 ∧
    Binary32.isNaN (gyroF (signed16 h)) = false ∧ Binary32.isInfinite (gyroF (signed16 h)) = false ∧
    Binary32.isSubnormal (gyroF (signed16 h)) = false ∧ Binary32.isNegativeZero (gyroF (signed16 h)) = false

/-- 41_decoder.md section 4 (R142, derived there): `GyroF` is injective on the narrow values. -/
def Obligations.GyroFloatIsInjective : Prop :=
  ∀ h h' : Half, gyroF (signed16 h) = gyroF (signed16 h') → h = h'

/-- 41_decoder.md section 2 (R134, decision D11): the derived integer is `(n / 256) * 100` truncated toward zero, lies in
-12800 to 12799, and its 16-bit register holds it. -/
def Obligations.DerivedIntegerTruncates : Prop :=
  ∀ n : Int, -32768 ≤ n → n ≤ 32767 →
    gyroI n = Int.tdiv (n * gyroIntFactor) gyroScaleInv ∧
    (0 ≤ n → 0 ≤ gyroI n ∧ gyroI n * 64 ≤ 25 * n ∧ 25 * n < (gyroI n + 1) * 64) ∧
    (n ≤ 0 → gyroI n ≤ 0 ∧ 25 * n ≤ gyroI n * 64 ∧ (gyroI n - 1) * 64 < 25 * n) ∧
    -12800 ≤ gyroI n ∧ gyroI n ≤ 12799 ∧ (BitVec.ofInt 16 (gyroI n)).toInt = gyroI n

/-- 41_decoder.md section 2 (R135, decisions D11, D12): the checksum is the exact sum's remainder modulo 10, zero or
with the sign of the sum, in -9 to 9, and its 8-bit register holds it. -/
def Obligations.ChecksumKeepsSign : Prop :=
  ∀ i0 i1 i2 : Int,
    let c := gyroChk i0 i1 i2
    (∃ q : Int, i0 + i1 + i2 = q * 10 + c) ∧ -9 ≤ c ∧ c ≤ 9 ∧
    (0 ≤ i0 + i1 + i2 → 0 ≤ c) ∧ (i0 + i1 + i2 ≤ 0 → c ≤ 0) ∧ (BitVec.ofInt 8 c).toInt = c

/-- 41_decoder.md section 3, 30_encoding.md section 3, 10_state.md section 7: the registers each mode writes, from which
bytes, and that every other SensorFrame register keeps its value. The order and count of the fields are the spec's
decisions D7 and D8, that wide fields are not scaled D9, the one SensorFrame of all modes D10, the integer widths D11, the
checksum's remainder D12 (log 18). -/
def Obligations.DecodeFollowsLayouts : Prop :=
  ∀ (m : Memory) (f : SensorFrame),
    decodePayload .all m f =
      { acc := ⟨m.read4 0, m.read4 4, m.read4 8⟩
        mag := ⟨m.read4 12, m.read4 16, m.read4 20⟩
        gyro := ⟨gyroF (narrow m 24), gyroF (narrow m 26), gyroF (narrow m 28)⟩
        gyroI := ⟨BitVec.ofInt 16 (gyroI (narrow m 24)), BitVec.ofInt 16 (gyroI (narrow m 26)),
          BitVec.ofInt 16 (gyroI (narrow m 28))⟩
        gyroChk := BitVec.ofInt 8
          (Int.tmod (gyroI (narrow m 24) + gyroI (narrow m 26) + gyroI (narrow m 28)) 10)
        euler := f.euler } ∧
    decodePayload .gyro m f =
      { acc := f.acc
        mag := f.mag
        gyro := ⟨gyroF (narrow m 0), gyroF (narrow m 2), gyroF (narrow m 4)⟩
        gyroI := ⟨BitVec.ofInt 16 (gyroI (narrow m 0)), BitVec.ofInt 16 (gyroI (narrow m 2)),
          BitVec.ofInt 16 (gyroI (narrow m 4))⟩
        gyroChk := BitVec.ofInt 8 (Int.tmod (gyroI (narrow m 0) + gyroI (narrow m 2) + gyroI (narrow m 4)) 10)
        euler := f.euler } ∧
    decodePayload .euler m f = { f with euler := ⟨m.read4 0, m.read4 4, m.read4 8⟩ }

/-- 41_decoder.md section 4 (R142, derived there; decisions D7, D8, D11, D12): after a good packet in mode ALL or GYRO the
stored checksum is the remainder of the sum of the three stored integers, and the stored floats and integers are `GyroF`
and `GyroI` of the three narrow values of the payload, those at the offsets of the mode. -/
def Obligations.GyroRegistersAgreeAfterDecode : Prop :=
  ∀ (s t : State), s.AwaitsTerminator → s.mode ≠ .euler → exec (.byte 0x0A#8) s = .next t →
    t.frame.gyroChk.toInt =
      Int.tmod (t.frame.gyroI.x.toInt + t.frame.gyroI.y.toInt + t.frame.gyroI.z.toInt) 10 ∧
    let n := narrowTriple s.buf (if s.mode = .all then ⟨24, 26, 28⟩ else ⟨0, 2, 4⟩)
    t.frame.gyro = n.map gyroF ∧ t.frame.gyroI.map BitVec.toInt = n.map gyroI

/-- 41_decoder.md sections 1 and 4 (R130, R139; decisions D7, D8): the decode depends on the mode and on the first `L(mode)` bytes only. -/
def Obligations.DecodeReadsOnlyThePayload : Prop :=
  ∀ (mode : DataMode) (m m' : Memory) (f : SensorFrame),
    (∀ i, i < payloadLen mode → m.read i = m'.read i) → decodePayload mode m f = decodePayload mode m' f

/-- 41_decoder.md section 5 (decision D11): rows of the conversion table, extremes and signs. -/
def Obligations.ConversionTableRows : Prop :=
  (signed16 0x0001#16 = 1 ∧ gyroF 1 = 0x3B800000#32 ∧ gyroI 1 = 0) ∧
  (signed16 0xFFFD#16 = -3 ∧ gyroF (-3) = 0xBC400000#32 ∧ gyroI (-3) = -1) ∧
  (signed16 0x1234#16 = 4660 ∧ gyroF 4660 = 0x4191A000#32 ∧ gyroI 4660 = 1820) ∧
  (signed16 0x7FFF#16 = 32767 ∧ gyroF 32767 = 0x42FFFE00#32 ∧ gyroI 32767 = 12799) ∧
  (signed16 0x8000#16 = -32768 ∧ gyroF (-32768) = 0xC3000000#32 ∧ gyroI (-32768) = -12800)

/-! ## SETMODE -/

/-- 42_control_and_access.md section 1 (R161, decision D17; operand by R160, decision D6): SETMODE writes the mode its
operand selects and clears the framing state, whatever the state; nothing else changes. -/
def Obligations.SetmodeSelectsModeAndClearsFraming : Prop :=
  ∀ (s : State) (m : Byte),
    exec (.setmode m) s = .next { s with
      mode := (if m.toNat = 0 then .all else if m.toNat = 1 then .gyro else if m.toNat = 2 then .euler
        else s.cfg.defaultMode)
      fs := .seekByte 0, fill := 0, res := .unit }

/-- 42_control_and_access.md section 1 (R162 g, derived there): two SETMODE in a row behave as the second alone. -/
def Obligations.SecondSetmodeDecides : Prop :=
  ∀ (s t : State) (m m' : Byte), exec (.setmode m) s = .next t → exec (.setmode m') t = exec (.setmode m') s

/-! ## Accessors -/

/-- 42_control_and_access.md section 2 (R163, decision D18): RDALL returns the registers in every mode and clears
`new_data`; nothing else changes. -/
def Obligations.RdallReturnsFrame : Prop :=
  ∀ s : State, exec .rdall s = .next { s with
    newData := false, res := .all ⟨s.frame.acc, s.frame.mag, s.frame.gyro, s.frame.gyroI, s.frame.gyroChk⟩ }

/-- 42_control_and_access.md section 2 (R164, decision D18): RDGYRO. -/
def Obligations.RdgyroReturnsFrame : Prop :=
  ∀ s : State, exec .rdgyro s = .next { s with
    newData := false, res := .gyro ⟨s.frame.gyro, s.frame.gyroI, s.frame.gyroChk⟩ }

/-- 42_control_and_access.md section 2 (R165, decision D18): RDEULER. -/
def Obligations.RdeulerReturnsFrame : Prop :=
  ∀ s : State, exec .rdeuler s = .next { s with newData := false, res := .euler s.frame.euler }

/-- R166: QNEW returns the flag as it was and clears it only when its operand is 1; nothing else changes. -/
def Obligations.QnewReportsThenClears : Prop :=
  ∀ (s : State) (c : BitVec 1), exec (.qnew c) s = .next { s with
    newData := (if c = 1#1 then false else s.newData), res := .flag s.newData }

/-- 42_control_and_access.md section 2 (R167, decisions D4, D29): AGE returns the clock minus the timestamp modulo 2^32
and writes nothing. -/
def Obligations.AgeIsModularDifference : Prop :=
  ∀ s : State, ∃ a : Word, exec .age s = .next { s with res := .age a } ∧
    (a.toNat : Int) = ((s.now.toNat : Int) - (s.tGood.toNat : Int)) % 2 ^ 32

/-- 42_control_and_access.md sections 2 and 3 (R163 to R168): the frame of the five accessors: every register, counter,
flag but `new_data`, the framing state and every byte of the buffer read as before. -/
def Obligations.AccessorFrame : Prop :=
  ∀ (s t : State) (i : Instr), (i = .rdall ∨ i = .rdgyro ∨ i = .rdeuler ∨ (∃ c, i = .qnew c) ∨ i = .age) →
    exec i s = .next t →
    t.fs = s.fs ∧ t.fill = s.fill ∧ (∀ a, t.buf.read a = s.buf.read a) ∧ t.mode = s.mode ∧
    t.lastGood = s.lastGood ∧ t.goodCnt = s.goodCnt ∧ t.badCnt = s.badCnt ∧ t.tGood = s.tGood ∧
    t.frame = s.frame ∧ t.cfg = s.cfg ∧ t.port = s.port ∧ t.now = s.now ∧
    (i = .age ∨ i = .qnew 0#1 → t.newData = s.newData)

/-! ## Whole-machine rules -/

/-- 10_state.md sections 6 and 7 (R36 with decision D13, R38, R41): of all inputs, only RESET and a good packet change the
good-packet count, the timestamp or a SensorFrame register, and a good packet adds one modulo 2^32. -/
def Obligations.OnlyGoodPacketsWriteFrameAndGoodCount : Prop :=
  ∀ s t : State, step s = .next t →
    (¬ s.AtReset → ¬ s.AtGoodPacket → t.goodCnt = s.goodCnt ∧ t.tGood = s.tGood ∧ t.frame = s.frame) ∧
    (s.AtGoodPacket → t.goodCnt.toNat = (s.goodCnt.toNat + 1) % 2 ^ 32)

/-- 10_state.md sections 5 and 6 (R34, R37 with decision D13): only RESET and a bad packet change the bad-packet count;
only RESET and a packet event write the last-packet-good flag. -/
def Obligations.OnlyPacketEventsWriteLastGoodAndBadCount : Prop :=
  ∀ s t : State, step s = .next t →
    (¬ s.AtReset → ¬ s.AtBadPacket → t.badCnt = s.badCnt) ∧
    (s.AtBadPacket → t.badCnt.toNat = (s.badCnt.toNat + 1) % 2 ^ 32 ∧ t.lastGood = false) ∧
    (s.AtGoodPacket → t.lastGood = true) ∧
    (¬ s.AtReset → ¬ s.AtBadPacket → ¬ s.AtGoodPacket → t.lastGood = s.lastGood)

/-- 10_state.md section 5 (R33) and 60_exceptions.md section 3 (R216): every packet event sets `new_data`; it is
cleared by RDALL, RDGYRO, RDEULER, `QNEW 1` and RESET, and by nothing else. -/
def Obligations.NewDataSetAndClearedOnlyAsListed : Prop :=
  ∀ s t : State, step s = .next t →
    (s.AtGoodPacket ∨ s.AtBadPacket → t.newData = true) ∧
    (s.newData = false → t.newData = true → s.AtGoodPacket ∨ s.AtBadPacket) ∧
    (s.newData = true → t.newData = false →
      s.AtReset ∨ s.AtWord 0x200#11 ∨ s.AtWord 0x201#11 ∨ s.AtWord 0x202#11 ∨ s.AtWord 0x301#11) ∧
    (s.AtWord 0x200#11 ∨ s.AtWord 0x201#11 ∨ s.AtWord 0x202#11 ∨ s.AtWord 0x301#11 → t.newData = false)

/-- 10_state.md section 4 (R31, R32): only SETMODE and RESET write the mode, and no step changes a parameter. -/
def Obligations.OnlySetmodeAndResetWriteMode : Prop :=
  ∀ s t : State, step s = .next t →
    t.cfg = s.cfg ∧ (t.mode ≠ s.mode → s.AtReset ∨ ∃ m : Byte, s.AtWord (1#3 ++ m) ∧ t.mode = modeOf s.cfg m)

/-! ## Error classes -/

/-- R211: `E_DESYNC` is met exactly by BYTE in `SeekByte k` with a byte that differs from `MAGIC[k]`; its effect is
`fs <- SeekByte0` and nothing else, and the host sees no status output change. -/
def Obligations.DesyncIsSilent : Prop :=
  (∀ (i : Instr) (s : State), errorMet i s = some .desync ↔
    ∃ (b : Byte) (k : Fin 4), i = .byte b ∧ s.fs = .seekByte k ∧ b ≠ s.cfg.magic[k]) ∧
  ∀ (i : Instr) (s : State), errorMet i s = some .desync →
    exec i s = .next { s with fs := .seekByte 0, res := .evt false } ∧
    { s with fs := FramerState.seekByte 0, res := Result.evt false }.status = s.status

/-- 60_exceptions.md section 2 (R212): `E_BADPKT` is met exactly by BYTE at the terminator position with a byte other than
`0x0A`; it is counted and flagged, not decoded, and the payload bytes remain in the buffer. That the 32-bit count wraps is
the spec's decision D13 (log 18). -/
def Obligations.BadPacketErrorIsCountedAndFlagged : Prop :=
  (∀ (i : Instr) (s : State), errorMet i s = some .badpkt ↔
    ∃ b : Byte, i = .byte b ∧ s.AwaitsTerminator ∧ b ≠ 0x0A#8) ∧
  ∀ (i : Instr) (s : State), errorMet i s = some .badpkt →
    exec i s = .next { s with
      badCnt := s.badCnt + 1, lastGood := false, newData := true, fill := 0, fs := .seekByte 0, res := .evt true }

/-- 60_exceptions.md section 2 (R213): `E_BADMODE` is met exactly by SETMODE with an operand above 2; the mode becomes the
default mode and the framer is cleared. That everything else is unchanged is the spec's decision D17 (R161, log 18). -/
def Obligations.BadModeIsCoerced : Prop :=
  (∀ (i : Instr) (s : State), errorMet i s = some .badmode ↔ ∃ m : Byte, i = .setmode m ∧ 2 < m.toNat) ∧
  ∀ (i : Instr) (s : State), errorMet i s = some .badmode →
    exec i s = .next { s with mode := s.cfg.defaultMode, fs := .seekByte 0, fill := 0, res := .unit }

/-- 60_exceptions.md section 2 (R214, R215), 20_memory.md section 5 (R67), 40_framer.md section 2 (decision D15): no operation
in any state meets `E_OVERRUN`. Only BYTE stores, and only to the index `storeIndex` names, which is the fill count, below
the payload length and inside the buffer: whatever `exec` runs, every other byte reads as before. -/
def Obligations.OverrunNeverMet : Prop :=
  (∀ (i : Instr) (s : State), errorMet i s ≠ some .overrun) ∧
  (∀ (s : State) (a : Nat), s.storeIndex = some a → a = s.fill.toNat ∧ a < payloadLen s.mode ∧ a < 30) ∧
  ∀ (i : Instr) (s t : State), s.buf.wf = true → exec i s = .next t →
    ∀ a, (∀ b, i ≠ .byte b) ∨ s.storeIndex ≠ some a → t.buf.read a = s.buf.read a

/-! ## Invariants, isolation, whole frames -/

/-- 10_state.md sections 2 and 3 (R26, R28, derived there) and log 7: every step from a state that meets the invariant
gives a state that meets it. -/
def Obligations.EveryStepKeepsInvariant : Prop := ∀ s t : State, s.Inv → step s = .next t → t.Inv

/-- 10_state.md section 8: the invariant holds right after reset. The framing state and the fill count are the spec's
decision D14; the canonical buffer is this model's choice (log 7: nothing listed), since the spec leaves `buf` unspecified
there. -/
def Obligations.ResetMeetsInvariant : Prop := State.reset.Inv

/-- 10_state.md sections 2 and 3 (R26, R28, derived there; reset by decision D14): in every state reachable from reset, whatever the host
presents, the fill count is 0 outside `Collecting` and at most the payload length. -/
def Obligations.ReachableStatesMeetInvariant : Prop :=
  ∀ s : State, Reachable s → (s.fs ≠ .collecting → s.fill = 0) ∧ s.fill.toNat ≤ payloadLen s.mode

/-- 10_state.md section 3 (R30, derived there): the stale bytes of the buffer cannot be observed. Two states that meet
the invariant and differ in stale bytes only step to states that differ in stale bytes only, with the same result, status
outputs and registers. -/
def Obligations.StaleBytesAreUnobservable : Prop :=
  ∀ s s' t t' : State, s.Inv → s'.Inv → SameButStale s s' →
    step s = .next t → step s' = .next t' → SameButStale t t' ∧ t.res = t'.res ∧ t.status = t'.status

/-- 40_framer.md section 3 (R120, derived there; decisions D7 to D13, D24): the good-frame property. The bytes of a whole frame of the current
mode, with any clock values, give no event before the last and a good packet with it. -/
def Obligations.GoodFrameIsDecoded : Prop :=
  ∀ (s : State) (payload : List Byte) (xs : List (Byte × Word)) (last : Word) (rest : List Input),
    s.Inv → s.fs = .seekByte 0 → payload.length = payloadLen s.mode →
    xs.map Prod.fst = s.cfg.magic.toList ++ payload →
    s.port = presentBytes (xs ++ [(0x0A#8, last)]) ++ rest →
    (∀ k, 0 < k → k ≤ 4 + payloadLen s.mode → ∃ u, runSteps k s = .next u ∧ u.res = .evt false) ∧
    ∃ t, runSteps (frameLen s.mode) s = .next t ∧ t.res = .evt true ∧ t.goodCnt = s.goodCnt + 1 ∧
      t.badCnt = s.badCnt ∧ t.lastGood = true ∧ t.newData = true ∧ t.fs = .seekByte 0 ∧ t.fill = 0 ∧
      t.tGood = last ∧ t.mode = s.mode ∧ t.port = rest ∧
      (∀ (i : Nat) (h : i < payload.length), t.buf.read i = payload[i]) ∧
      t.frame = decodePayload s.mode (Memory.ofBytesFrom 0 payload) s.frame

/-- 40_framer.md section 3 (R121, derived there; decision D13): the bad-frame property. The same bytes with any other last byte give
one bad packet; nothing is decoded. -/
def Obligations.BadFrameIsRejected : Prop :=
  ∀ (s : State) (payload : List Byte) (xs : List (Byte × Word)) (bad : Byte) (last : Word) (rest : List Input),
    s.Inv → s.fs = .seekByte 0 → payload.length = payloadLen s.mode →
    xs.map Prod.fst = s.cfg.magic.toList ++ payload → bad ≠ 0x0A#8 →
    s.port = presentBytes (xs ++ [(bad, last)]) ++ rest →
    (∀ k, 0 < k → k ≤ 4 + payloadLen s.mode → ∃ u, runSteps k s = .next u ∧ u.res = .evt false) ∧
    ∃ t, runSteps (frameLen s.mode) s = .next t ∧ t.res = .evt true ∧ t.badCnt = s.badCnt + 1 ∧
      t.goodCnt = s.goodCnt ∧ t.lastGood = false ∧ t.newData = true ∧ t.fs = .seekByte 0 ∧ t.fill = 0 ∧
      t.tGood = s.tGood ∧ t.mode = s.mode ∧ t.frame = s.frame ∧ t.port = rest

/-- 40_framer.md section 3 (R122, derived there): from `SeekByte0`, whatever bytes are presented, no packet event occurs
before the `L(mode) + 5`-th BYTE operation. -/
def Obligations.NoEventWithoutWholeFrame : Prop :=
  ∀ (s : State) (xs : List (Byte × Word)) (rest : List Input) (k : Nat), s.Inv → s.fs = .seekByte 0 →
    s.port = presentBytes xs ++ rest → k ≤ xs.length → 0 < k → k < payloadLen s.mode + 5 →
    ∃ t, runSteps k s = .next t ∧ t.res = .evt false

/-! ## The host above the block -/

/-- 43_host_environment.md section 2 (R184): `poll(false)` takes at most one byte; `poll(true)` stops at the first
event and leaves the bytes after it in the transport. -/
def Obligations.PollStopsAtFirstEvent : Prop :=
  (∀ h : Session, h.rx = [] → ∀ d, h.poll d = (false, h)) ∧
  (∀ (h : Session) (b : Byte) (now : Word) (rest : List (Byte × Word)), h.rx = (b, now) :: rest →
    (h.poll false).1 = (performAt (.byte b) now h.block).reportedEvent ∧
    (h.poll false).2 = { h with rx := rest, block := performAt (.byte b) now h.block } ∧
    h.poll true =
      if (h.poll false).1 then h.poll false else (h.poll false).2.poll true) ∧
  ∀ h : Session, (h.poll true).1 = false → (h.poll true).2.rx = []

/-- 43_host_environment.md section 2 (R185, derived there): bytes split across two polls give what they give in one. -/
def Obligations.SplitPollsCompose : Prop :=
  ∀ (h : Session) (xs ys : List (Byte × Word)), ({ h with rx := xs }.poll true).1 = false →
    { h with rx := xs ++ ys }.poll true =
      { ({ h with rx := xs }.poll true).2 with rx := ys }.poll true

/-- 43_host_environment.md section 2 (R186, R187, decision D28): after a bad packet, without continuous streaming,
`pollValid` answers false, clears `new_data`, issues SETMODE with the current mode and writes `#f` exactly once. -/
def Obligations.BadPacketRequestsOneFrame : Prop :=
  ∀ (h : Session) (d : Bool), (h.poll d).1 = true → (h.poll d).2.block.lastGood = false →
    h.link.continuous = false →
    (h.pollValid d).1 = false ∧
    (h.pollValid d).2.actions = h.actions ++ [.write [0x23#8, 0x66#8]] ∧
    (h.pollValid d).2.link = h.link ∧ (h.pollValid d).2.rx = (h.poll d).2.rx ∧
    (h.pollValid d).2.block =
      { (h.poll d).2.block with newData := false, fs := .seekByte 0, fill := 0, res := .unit }

/-- 43_host_environment.md section 3 (R193), for every table of nine rates the rule admits (N11, log 16): each entry is
supported under its own identifier, every supported rate is an entry, in 2400 to 115200, both ends are supported, and 1200 is
not. An unsupported rate changes nothing and performs no I/O; a supported one performs flush, close, settle, reopen,
settle in that order, after the command unless internal, and mirrors the identifier. -/
def Obligations.BaudRateChangeOrder : Prop :=
  (∀ (t : BaudTable) (i : Fin 9), t.identifier t.rates[i] = some i) ∧
  (∀ (t : BaudTable) (rate : Nat) (i : Fin 9), t.identifier rate = some i →
    t.rates[i] = rate ∧ 2400 ≤ rate ∧ rate ≤ 115200) ∧
  (∀ t : BaudTable, (∃ i, t.identifier 2400 = some i) ∧ (∃ i, t.identifier 115200 = some i) ∧
    t.identifier 1200 = none) ∧
  (∀ (h : Session) (rate : Nat) (internal : Bool), h.table.identifier rate = none →
    h.setBaudRate rate internal = h) ∧
  ∀ (h : Session) (rate : Nat) (i : Fin 9), h.table.identifier rate = some i →
    h.setBaudRate rate true = { h with
      actions := h.actions ++ [.flush, .close, .settle .short, .openAt rate, .settle .short]
      link := { h.link with baud := some i } } ∧
    ∃ cmd : Byte, (cmd.toNat = 1 + i.val ∨ cmd.toNat = 0x31 + i.val) ∧
      h.setBaudRate rate false = { h with
        actions := h.actions ++
          [.write [0x23#8, 0x62#8, cmd], .flush, .close, .settle .long, .openAt rate, .settle .short]
        link := { h.link with baud := some i } }

/-- 43_host_environment.md section 3 (R190 to R194) and 70_reset_and_hazards.md section 3 (R245, derived there): no
configuration operation but `setDataMode` touches the block. -/
def Obligations.ConfigurationLeavesBlockAlone : Prop :=
  ∀ (h : Session) (rate final : Nat) (b : Bool) (v : BitVec 16),
    (h.setBaudRate rate b).block = h.block ∧ (h.start rate final).block = h.block ∧
    (h.setUpdateInterval v).block = h.block ∧ (h.setContinuousStream b).block = h.block ∧
    h.zeroCalibrate.block = h.block ∧
    (h.setUpdateInterval v).actions =
      h.actions ++ [.write [0x23#8, 0x69#8, v.extractLsb' 8 8, v.extractLsb' 0 8]] ∧
    (h.link.isOpen = true → h.start rate final = h)

/-- 43_host_environment.md section 3 (R188, decision D28): `setDataMode` always issues SETMODE, and emits the command only
if forced or if the coerced mode differs from the block's. -/
def Obligations.SetDataModeAlwaysClearsFraming : Prop :=
  ∀ (h : Session) (m : Byte) (force : Bool),
    (h.setDataMode m force).block =
      { h.block with mode := modeOf h.block.cfg m, fs := .seekByte 0, fill := 0, res := .unit } ∧
    (force = false ∧ modeOf h.block.cfg m = h.block.mode → (h.setDataMode m force).actions = h.actions) ∧
    (force = true ∨ modeOf h.block.cfg m ≠ h.block.mode →
      ∃ a : Byte, (h.setDataMode m force).actions = h.actions ++ [.write [0x23#8, 0x6D#8, a]] ∧
        (a = modeNumber (modeOf h.block.cfg m) ∨ a = 0x30#8 + modeNumber (modeOf h.block.cfg m)))
end

