-- ==== Sys2Proof/Laws/Memory.lean ====
section
/-! SUPPORT. The laws of the buffer: reading after writing, and that every operation keeps the canonical form. -/

namespace Sys2Proof.Machine

@[simp] theorem Memory.read_nil (i : Nat) : Memory.read [] i = Memory.unlisted := rfl

theorem Memory.read_cons (x : Nat) (c : Byte) (m : Memory) (i : Nat) :
    Memory.read ((x, c) :: m) i = if x = i then c else m.read i := rfl

/-- What the canonical form says of its first entry. -/
theorem Memory.wfFrom_cons (lo x : Nat) (c : Byte) (m : Memory) :
    Memory.wfFrom lo ((x, c) :: m) = true ↔
      lo ≤ x ∧ x < 30 ∧ c ≠ Memory.unlisted ∧ m.wfFrom (x + 1) = true := by
  simp only [Memory.wfFrom, Bool.and_eq_true, decide_eq_true_eq, and_assoc]
  rfl

/-- A canonical memory from `lo` on lists nothing below `lo`. -/
theorem Memory.read_below {lo i : Nat} {m : Memory} (h : m.wfFrom lo = true) (hi : i < lo) :
    m.read i = Memory.unlisted := by
  induction m generalizing lo with
  | nil => rfl
  | cons e m ih =>
    obtain ⟨x, c⟩ := e
    simp only [Memory.wfFrom, Bool.and_eq_true, decide_eq_true_eq] at h
    rw [Memory.read_cons, if_neg (by omega), ih h.2 (by omega)]

theorem Memory.wfFrom_mono {lo hi : Nat} {m : Memory} (h : m.wfFrom hi = true) (hl : lo ≤ hi) :
    m.wfFrom lo = true := by
  cases m with
  | nil => rfl
  | cons e m =>
    obtain ⟨x, c⟩ := e
    simp only [Memory.wfFrom, Bool.and_eq_true, decide_eq_true_eq] at h ⊢
    exact ⟨⟨⟨by omega, h.1.1.2⟩, h.1.2⟩, h.2⟩

/-- A write keeps the canonical form. -/
theorem Memory.wfFrom_write {lo i : Nat} {m : Memory} (b : Byte) (h : m.wfFrom lo = true) (hlo : lo ≤ i)
    (hi : i < bufCap) : (m.write i b).wfFrom lo = true := by
  induction m generalizing lo with
  | nil =>
    unfold Memory.write
    split <;> simp [Memory.wfFrom, *]
  | cons e m ih =>
    obtain ⟨x, c⟩ := e
    have h' := h
    simp only [Memory.wfFrom, Bool.and_eq_true, decide_eq_true_eq] at h
    unfold Memory.write
    split
    · split
      · exact h'
      · next hx hb =>
        simp only [Memory.wfFrom, Bool.and_eq_true, decide_eq_true_eq]
        exact ⟨⟨⟨hlo, hi⟩, hb⟩, ⟨⟨by omega, h.1.1.2⟩, h.1.2⟩, h.2⟩
    · split
      · next hne heq =>
        split
        · exact Memory.wfFrom_mono h.2 (by omega)
        · next hb =>
          subst heq
          simp only [Memory.wfFrom, Bool.and_eq_true, decide_eq_true_eq]
          exact ⟨⟨⟨hlo, hi⟩, hb⟩, h.2⟩
      · simp only [Memory.wfFrom, Bool.and_eq_true, decide_eq_true_eq]
        exact ⟨h.1, ih h.2 (by omega)⟩

/-- A write inside the buffer keeps `Memory.wf`. -/
theorem Memory.wf_write {i : Nat} {m : Memory} (b : Byte) (h : m.wf = true) (hi : i < bufCap) :
    (m.write i b).wf = true := Memory.wfFrom_write b h (Nat.zero_le i) hi

/-- What a read sees after a write to a canonical memory. -/
theorem Memory.read_write {lo i : Nat} {m : Memory} (b : Byte) (h : m.wfFrom lo = true) (j : Nat) :
    (m.write i b).read j = if j = i then b else m.read j := by
  induction m generalizing lo with
  | nil =>
    unfold Memory.write
    split
    · next hb => by_cases hj : j = i <;> simp [hj, hb]
    · rw [Memory.read_cons]
      by_cases hj : j = i
      · simp [hj]
      · rw [if_neg (Ne.symm hj), if_neg hj]
  | cons e m ih =>
    obtain ⟨x, c⟩ := e
    have h' := h
    simp only [Memory.wfFrom, Bool.and_eq_true, decide_eq_true_eq] at h
    unfold Memory.write
    split
    · next hx =>
      have hbelow : Memory.read ((x, c) :: m) i = Memory.unlisted := by
        rw [Memory.read_cons, if_neg (by omega), Memory.read_below h.2 (by omega)]
      split
      · next hb =>
        by_cases hj : j = i
        · rw [if_pos hj, hj, hbelow, hb]
        · rw [if_neg hj]
      · rw [Memory.read_cons]
        by_cases hj : j = i
        · simp [hj]
        · rw [if_neg (Ne.symm hj), if_neg hj]
    · split
      · next hne heq =>
        subst heq
        split
        · next hb =>
          by_cases hj : j = i
          · rw [if_pos hj, hj, Memory.read_below h.2 (by omega), hb]
          · rw [if_neg hj, Memory.read_cons, if_neg (Ne.symm hj)]
        · rw [Memory.read_cons, Memory.read_cons]
          by_cases hj : j = i
          · simp [hj]
          · rw [if_neg (Ne.symm hj), if_neg hj, if_neg (Ne.symm hj)]
      · next hne hx =>
        rw [Memory.read_cons, Memory.read_cons, ih h.2]
        by_cases hj : j = i
        · subst hj
          rw [if_neg (Ne.symm hx), if_pos rfl, if_pos rfl]
        · rw [if_neg hj, if_neg hj]

theorem Memory.read_write_same {i : Nat} {m : Memory} (b : Byte) (h : m.wf = true) : (m.write i b).read i = b := by
  rw [Memory.read_write b h, if_pos rfl]

theorem Memory.read_write_other {i j : Nat} {m : Memory} (b : Byte) (h : m.wf = true) (hj : j ≠ i) :
    (m.write i b).read j = m.read j := by
  rw [Memory.read_write b h, if_neg hj]

/-- Filling from bytes gives a canonical memory. -/
theorem Memory.wfFrom_ofBytesFrom (bs : List Byte) (i : Nat) (h : i + bs.length ≤ bufCap) :
    (Memory.ofBytesFrom i bs).wfFrom i = true := by
  induction bs generalizing i with
  | nil => rfl
  | cons b bs ih =>
    simp only [List.length_cons] at h
    have hrest := ih (i + 1) (by omega)
    unfold Memory.ofBytesFrom
    split
    · exact Memory.wfFrom_mono hrest (by omega)
    · next hb =>
      simp only [Memory.wfFrom, Bool.and_eq_true, decide_eq_true_eq]
      exact ⟨⟨⟨Nat.le_refl i, by omega⟩, hb⟩, hrest⟩

/-- The memory of a whole buffer is canonical. -/
theorem Memory.wf_ofVector (v : Vector Byte 30) : (Memory.ofVector v).wf = true :=
  Memory.wfFrom_ofBytesFrom _ 0 (by simp [bufCap])

/-- What a memory filled from bytes reads as. -/
theorem Memory.read_ofBytesFrom (bs : List Byte) (k i : Nat) :
    (Memory.ofBytesFrom k bs).read i =
      if h : k ≤ i ∧ i < k + bs.length then bs[i - k]'(by omega) else Memory.unlisted := by
  induction bs generalizing k with
  | nil => simp [Memory.ofBytesFrom]
  | cons b bs ih =>
    unfold Memory.ofBytesFrom
    by_cases hi : i = k
    · subst hi
      split
      · next hb => rw [ih]; simp [hb]
      · simp [Memory.read_cons]
    · have hskip : (if b = Memory.unlisted then Memory.ofBytesFrom (k + 1) bs
          else (k, b) :: Memory.ofBytesFrom (k + 1) bs).read i = (Memory.ofBytesFrom (k + 1) bs).read i := by
        split
        · rfl
        · rw [Memory.read_cons, if_neg (Ne.symm hi)]
      rw [hskip, ih]
      by_cases h : k + 1 ≤ i ∧ i < k + 1 + bs.length
      · rw [dif_pos h, dif_pos (by simp only [List.length_cons]; omega)]
        obtain ⟨j, rfl⟩ : ∃ j, i = k + 1 + j := ⟨i - (k + 1), by omega⟩
        simp [show k + 1 + j - k = j + 1 by omega]
      · rw [dif_neg h, dif_neg (by simp only [List.length_cons]; omega)]

/-- What the memory of a whole buffer reads as. -/
theorem Memory.read_ofVector (v : Vector Byte 30) (i : Nat) (h : i < 30) : (Memory.ofVector v).read i = v[i] := by
  unfold Memory.ofVector
  rw [Memory.read_ofBytesFrom, dif_pos (by simp; omega)]
  simp

/-- One step of the shift-and-or loop, while no bit is shifted out. -/
theorem toNat_shiftOr {n : Nat} (v : BitVec n) (b : Byte) (h : v.toNat * 256 + b.toNat < 2 ^ n) :
    (shiftOr v b).toNat = v.toNat * 256 + b.toNat := by
  have h8 : b.toNat < 2 ^ 8 := b.isLt
  have hb : b.toNat < 2 ^ n := by omega
  have hv : v.toNat <<< 8 < 2 ^ n :=
    Nat.lt_of_le_of_lt (by rw [Nat.shiftLeft_eq]; exact Nat.le_add_right (v.toNat * 256) b.toNat) h
  unfold shiftOr
  rw [BitVec.toNat_or, BitVec.toNat_shiftLeft, BitVec.toNat_setWidth, Nat.mod_eq_of_lt hb, Nat.mod_eq_of_lt hv,
    ← Nat.shiftLeft_add_eq_or_of_lt h8, Nat.shiftLeft_eq]

/-- Reset memory is canonical. -/
theorem Memory.wf_nil : Memory.wf [] = true := rfl

/-- Two-byte reads of memories that agree on the two bytes are equal. -/
theorem Memory.read2_congr {m m' : Memory} {off : Nat} (h : ∀ i, i < off + 2 → m.read i = m'.read i) :
    m.read2 off = m'.read2 off := by
  simp only [Memory.read2, h off (by omega), h (off + 1) (by omega)]

/-- Four-byte reads of memories that agree on the four bytes are equal. -/
theorem Memory.read4_congr {m m' : Memory} {off : Nat} (h : ∀ i, i < off + 4 → m.read i = m'.read i) :
    m.read4 off = m'.read4 off := by
  simp only [Memory.read4, h off (by omega), h (off + 1) (by omega), h (off + 2) (by omega), h (off + 3) (by omega)]

end Sys2Proof.Machine
end

