-- ==== Sys2Proof/Laws/Decoder.lean ====
section
/-! SUPPORT. Which registers a decode writes and which bytes it reads. -/

namespace Sys2Proof.Machine

@[simp] theorem writeGyro_acc (n : Triple Int) (f : SensorFrame) : (writeGyro n f).acc = f.acc := rfl
@[simp] theorem writeGyro_mag (n : Triple Int) (f : SensorFrame) : (writeGyro n f).mag = f.mag := rfl
@[simp] theorem writeGyro_euler (n : Triple Int) (f : SensorFrame) : (writeGyro n f).euler = f.euler := rfl
@[simp] theorem writeGyro_gyro (n : Triple Int) (f : SensorFrame) : (writeGyro n f).gyro = n.map gyroF := rfl
@[simp] theorem writeGyro_gyroI (n : Triple Int) (f : SensorFrame) :
    (writeGyro n f).gyroI = n.map fun v => BitVec.ofInt 16 (gyroI v) := rfl
@[simp] theorem writeGyro_gyroChk (n : Triple Int) (f : SensorFrame) :
    (writeGyro n f).gyroChk = BitVec.ofInt 8 (gyroChk (gyroI n.x) (gyroI n.y) (gyroI n.z)) := rfl

theorem narrow_congr {m m' : Memory} {off : Nat} (h : ∀ i, i < off + 2 → m.read i = m'.read i) :
    narrow m off = narrow m' off := by simp only [narrow, Memory.read2_congr h]

theorem wide_congr {m m' : Memory} {off : Nat} (h : ∀ i, i < off + 4 → m.read i = m'.read i) :
    wide m off = wide m' off := Memory.read4_congr h

/-- The range of a narrow value (R132). -/
theorem narrow_range (m : Memory) (off : Nat) : -32768 ≤ narrow m off ∧ narrow m off ≤ 32767 := by
  have h1 := BitVec.le_toInt (m.read2 off)
  have h2 := BitVec.toInt_lt (x := m.read2 off)
  simp only [narrow, signed16]
  omega

/-- `trem` is Lean's truncated remainder. -/
theorem trem_eq_tmod (a b : Int) : trem a b = Int.tmod a b := by
  simp only [trem, tdiv, Int.tmod_def]

end Sys2Proof.Machine
end

