-- ==== Sys2Proof/Laws/State.lean ====
section
/-! SUPPORT. One lemma per field per named update of the state, true by rfl: later proofs never unfold a record update. -/

namespace Sys2Proof.Machine

/-! ### `State.setNewData` -/

@[simp] theorem State.setNewData_fs (s : State) : s.setNewData.fs = s.fs := rfl
@[simp] theorem State.setNewData_fill (s : State) : s.setNewData.fill = s.fill := rfl
@[simp] theorem State.setNewData_buf (s : State) : s.setNewData.buf = s.buf := rfl
@[simp] theorem State.setNewData_mode (s : State) : s.setNewData.mode = s.mode := rfl
@[simp] theorem State.setNewData_newData (s : State) : s.setNewData.newData = true := rfl
@[simp] theorem State.setNewData_lastGood (s : State) : s.setNewData.lastGood = s.lastGood := rfl
@[simp] theorem State.setNewData_goodCnt (s : State) : s.setNewData.goodCnt = s.goodCnt := rfl
@[simp] theorem State.setNewData_badCnt (s : State) : s.setNewData.badCnt = s.badCnt := rfl
@[simp] theorem State.setNewData_tGood (s : State) : s.setNewData.tGood = s.tGood := rfl
@[simp] theorem State.setNewData_frame (s : State) : s.setNewData.frame = s.frame := rfl
@[simp] theorem State.setNewData_cfg (s : State) : s.setNewData.cfg = s.cfg := rfl
@[simp] theorem State.setNewData_port (s : State) : s.setNewData.port = s.port := rfl
@[simp] theorem State.setNewData_now (s : State) : s.setNewData.now = s.now := rfl
@[simp] theorem State.setNewData_res (s : State) : s.setNewData.res = s.res := rfl

/-! ### `State.clearNewData` -/

@[simp] theorem State.clearNewData_fs (s : State) : s.clearNewData.fs = s.fs := rfl
@[simp] theorem State.clearNewData_fill (s : State) : s.clearNewData.fill = s.fill := rfl
@[simp] theorem State.clearNewData_buf (s : State) : s.clearNewData.buf = s.buf := rfl
@[simp] theorem State.clearNewData_mode (s : State) : s.clearNewData.mode = s.mode := rfl
@[simp] theorem State.clearNewData_newData (s : State) : s.clearNewData.newData = false := rfl
@[simp] theorem State.clearNewData_lastGood (s : State) : s.clearNewData.lastGood = s.lastGood := rfl
@[simp] theorem State.clearNewData_goodCnt (s : State) : s.clearNewData.goodCnt = s.goodCnt := rfl
@[simp] theorem State.clearNewData_badCnt (s : State) : s.clearNewData.badCnt = s.badCnt := rfl
@[simp] theorem State.clearNewData_tGood (s : State) : s.clearNewData.tGood = s.tGood := rfl
@[simp] theorem State.clearNewData_frame (s : State) : s.clearNewData.frame = s.frame := rfl
@[simp] theorem State.clearNewData_cfg (s : State) : s.clearNewData.cfg = s.cfg := rfl
@[simp] theorem State.clearNewData_port (s : State) : s.clearNewData.port = s.port := rfl
@[simp] theorem State.clearNewData_now (s : State) : s.clearNewData.now = s.now := rfl
@[simp] theorem State.clearNewData_res (s : State) : s.clearNewData.res = s.res := rfl

/-! ### `State.recordGood` -/

@[simp] theorem State.recordGood_fs (s : State) : s.recordGood.fs = s.fs := rfl
@[simp] theorem State.recordGood_fill (s : State) : s.recordGood.fill = s.fill := rfl
@[simp] theorem State.recordGood_buf (s : State) : s.recordGood.buf = s.buf := rfl
@[simp] theorem State.recordGood_mode (s : State) : s.recordGood.mode = s.mode := rfl
@[simp] theorem State.recordGood_newData (s : State) : s.recordGood.newData = s.newData := rfl
@[simp] theorem State.recordGood_lastGood (s : State) : s.recordGood.lastGood = true := rfl
@[simp] theorem State.recordGood_goodCnt (s : State) : s.recordGood.goodCnt = s.goodCnt + 1 := rfl
@[simp] theorem State.recordGood_badCnt (s : State) : s.recordGood.badCnt = s.badCnt := rfl
@[simp] theorem State.recordGood_tGood (s : State) : s.recordGood.tGood = s.now := rfl
@[simp] theorem State.recordGood_frame (s : State) : s.recordGood.frame = s.frame := rfl
@[simp] theorem State.recordGood_cfg (s : State) : s.recordGood.cfg = s.cfg := rfl
@[simp] theorem State.recordGood_port (s : State) : s.recordGood.port = s.port := rfl
@[simp] theorem State.recordGood_now (s : State) : s.recordGood.now = s.now := rfl
@[simp] theorem State.recordGood_res (s : State) : s.recordGood.res = s.res := rfl

/-! ### `State.recordBad` -/

@[simp] theorem State.recordBad_fs (s : State) : s.recordBad.fs = s.fs := rfl
@[simp] theorem State.recordBad_fill (s : State) : s.recordBad.fill = s.fill := rfl
@[simp] theorem State.recordBad_buf (s : State) : s.recordBad.buf = s.buf := rfl
@[simp] theorem State.recordBad_mode (s : State) : s.recordBad.mode = s.mode := rfl
@[simp] theorem State.recordBad_newData (s : State) : s.recordBad.newData = s.newData := rfl
@[simp] theorem State.recordBad_lastGood (s : State) : s.recordBad.lastGood = false := rfl
@[simp] theorem State.recordBad_goodCnt (s : State) : s.recordBad.goodCnt = s.goodCnt := rfl
@[simp] theorem State.recordBad_badCnt (s : State) : s.recordBad.badCnt = s.badCnt + 1 := rfl
@[simp] theorem State.recordBad_tGood (s : State) : s.recordBad.tGood = s.tGood := rfl
@[simp] theorem State.recordBad_frame (s : State) : s.recordBad.frame = s.frame := rfl
@[simp] theorem State.recordBad_cfg (s : State) : s.recordBad.cfg = s.cfg := rfl
@[simp] theorem State.recordBad_port (s : State) : s.recordBad.port = s.port := rfl
@[simp] theorem State.recordBad_now (s : State) : s.recordBad.now = s.now := rfl
@[simp] theorem State.recordBad_res (s : State) : s.recordBad.res = s.res := rfl

/-! ### `State.goto` -/

@[simp] theorem State.goto_fs (s : State) (f : FramerState) : (s.goto f).fs = f := rfl
@[simp] theorem State.goto_fill (s : State) (f : FramerState) : (s.goto f).fill = s.fill := rfl
@[simp] theorem State.goto_buf (s : State) (f : FramerState) : (s.goto f).buf = s.buf := rfl
@[simp] theorem State.goto_mode (s : State) (f : FramerState) : (s.goto f).mode = s.mode := rfl
@[simp] theorem State.goto_newData (s : State) (f : FramerState) : (s.goto f).newData = s.newData := rfl
@[simp] theorem State.goto_lastGood (s : State) (f : FramerState) : (s.goto f).lastGood = s.lastGood := rfl
@[simp] theorem State.goto_goodCnt (s : State) (f : FramerState) : (s.goto f).goodCnt = s.goodCnt := rfl
@[simp] theorem State.goto_badCnt (s : State) (f : FramerState) : (s.goto f).badCnt = s.badCnt := rfl
@[simp] theorem State.goto_tGood (s : State) (f : FramerState) : (s.goto f).tGood = s.tGood := rfl
@[simp] theorem State.goto_frame (s : State) (f : FramerState) : (s.goto f).frame = s.frame := rfl
@[simp] theorem State.goto_cfg (s : State) (f : FramerState) : (s.goto f).cfg = s.cfg := rfl
@[simp] theorem State.goto_port (s : State) (f : FramerState) : (s.goto f).port = s.port := rfl
@[simp] theorem State.goto_now (s : State) (f : FramerState) : (s.goto f).now = s.now := rfl
@[simp] theorem State.goto_res (s : State) (f : FramerState) : (s.goto f).res = s.res := rfl

/-! ### `State.clearFraming` -/

@[simp] theorem State.clearFraming_fs (s : State) : s.clearFraming.fs = .seekByte 0 := rfl
@[simp] theorem State.clearFraming_fill (s : State) : s.clearFraming.fill = 0 := rfl
@[simp] theorem State.clearFraming_buf (s : State) : s.clearFraming.buf = s.buf := rfl
@[simp] theorem State.clearFraming_mode (s : State) : s.clearFraming.mode = s.mode := rfl
@[simp] theorem State.clearFraming_newData (s : State) : s.clearFraming.newData = s.newData := rfl
@[simp] theorem State.clearFraming_lastGood (s : State) : s.clearFraming.lastGood = s.lastGood := rfl
@[simp] theorem State.clearFraming_goodCnt (s : State) : s.clearFraming.goodCnt = s.goodCnt := rfl
@[simp] theorem State.clearFraming_badCnt (s : State) : s.clearFraming.badCnt = s.badCnt := rfl
@[simp] theorem State.clearFraming_tGood (s : State) : s.clearFraming.tGood = s.tGood := rfl
@[simp] theorem State.clearFraming_frame (s : State) : s.clearFraming.frame = s.frame := rfl
@[simp] theorem State.clearFraming_cfg (s : State) : s.clearFraming.cfg = s.cfg := rfl
@[simp] theorem State.clearFraming_port (s : State) : s.clearFraming.port = s.port := rfl
@[simp] theorem State.clearFraming_now (s : State) : s.clearFraming.now = s.now := rfl
@[simp] theorem State.clearFraming_res (s : State) : s.clearFraming.res = s.res := rfl

/-! ### `State.storePayload` -/

@[simp] theorem State.storePayload_fs (s : State) (b : Byte) : (s.storePayload b).fs = s.fs := rfl
@[simp] theorem State.storePayload_fill (s : State) (b : Byte) : (s.storePayload b).fill = s.fill + 1 := rfl
@[simp] theorem State.storePayload_buf (s : State) (b : Byte) : (s.storePayload b).buf = s.buf.write s.fill.toNat b := rfl
@[simp] theorem State.storePayload_mode (s : State) (b : Byte) : (s.storePayload b).mode = s.mode := rfl
@[simp] theorem State.storePayload_newData (s : State) (b : Byte) : (s.storePayload b).newData = s.newData := rfl
@[simp] theorem State.storePayload_lastGood (s : State) (b : Byte) : (s.storePayload b).lastGood = s.lastGood := rfl
@[simp] theorem State.storePayload_goodCnt (s : State) (b : Byte) : (s.storePayload b).goodCnt = s.goodCnt := rfl
@[simp] theorem State.storePayload_badCnt (s : State) (b : Byte) : (s.storePayload b).badCnt = s.badCnt := rfl
@[simp] theorem State.storePayload_tGood (s : State) (b : Byte) : (s.storePayload b).tGood = s.tGood := rfl
@[simp] theorem State.storePayload_frame (s : State) (b : Byte) : (s.storePayload b).frame = s.frame := rfl
@[simp] theorem State.storePayload_cfg (s : State) (b : Byte) : (s.storePayload b).cfg = s.cfg := rfl
@[simp] theorem State.storePayload_port (s : State) (b : Byte) : (s.storePayload b).port = s.port := rfl
@[simp] theorem State.storePayload_now (s : State) (b : Byte) : (s.storePayload b).now = s.now := rfl
@[simp] theorem State.storePayload_res (s : State) (b : Byte) : (s.storePayload b).res = s.res := rfl

/-! ### `State.setMode` -/

@[simp] theorem State.setMode_fs (s : State) (m : DataMode) : (s.setMode m).fs = s.fs := rfl
@[simp] theorem State.setMode_fill (s : State) (m : DataMode) : (s.setMode m).fill = s.fill := rfl
@[simp] theorem State.setMode_buf (s : State) (m : DataMode) : (s.setMode m).buf = s.buf := rfl
@[simp] theorem State.setMode_mode (s : State) (m : DataMode) : (s.setMode m).mode = m := rfl
@[simp] theorem State.setMode_newData (s : State) (m : DataMode) : (s.setMode m).newData = s.newData := rfl
@[simp] theorem State.setMode_lastGood (s : State) (m : DataMode) : (s.setMode m).lastGood = s.lastGood := rfl
@[simp] theorem State.setMode_goodCnt (s : State) (m : DataMode) : (s.setMode m).goodCnt = s.goodCnt := rfl
@[simp] theorem State.setMode_badCnt (s : State) (m : DataMode) : (s.setMode m).badCnt = s.badCnt := rfl
@[simp] theorem State.setMode_tGood (s : State) (m : DataMode) : (s.setMode m).tGood = s.tGood := rfl
@[simp] theorem State.setMode_frame (s : State) (m : DataMode) : (s.setMode m).frame = s.frame := rfl
@[simp] theorem State.setMode_cfg (s : State) (m : DataMode) : (s.setMode m).cfg = s.cfg := rfl
@[simp] theorem State.setMode_port (s : State) (m : DataMode) : (s.setMode m).port = s.port := rfl
@[simp] theorem State.setMode_now (s : State) (m : DataMode) : (s.setMode m).now = s.now := rfl
@[simp] theorem State.setMode_res (s : State) (m : DataMode) : (s.setMode m).res = s.res := rfl

/-! ### `State.writeFrame` -/

@[simp] theorem State.writeFrame_fs (s : State) (f : SensorFrame) : (s.writeFrame f).fs = s.fs := rfl
@[simp] theorem State.writeFrame_fill (s : State) (f : SensorFrame) : (s.writeFrame f).fill = s.fill := rfl
@[simp] theorem State.writeFrame_buf (s : State) (f : SensorFrame) : (s.writeFrame f).buf = s.buf := rfl
@[simp] theorem State.writeFrame_mode (s : State) (f : SensorFrame) : (s.writeFrame f).mode = s.mode := rfl
@[simp] theorem State.writeFrame_newData (s : State) (f : SensorFrame) : (s.writeFrame f).newData = s.newData := rfl
@[simp] theorem State.writeFrame_lastGood (s : State) (f : SensorFrame) : (s.writeFrame f).lastGood = s.lastGood := rfl
@[simp] theorem State.writeFrame_goodCnt (s : State) (f : SensorFrame) : (s.writeFrame f).goodCnt = s.goodCnt := rfl
@[simp] theorem State.writeFrame_badCnt (s : State) (f : SensorFrame) : (s.writeFrame f).badCnt = s.badCnt := rfl
@[simp] theorem State.writeFrame_tGood (s : State) (f : SensorFrame) : (s.writeFrame f).tGood = s.tGood := rfl
@[simp] theorem State.writeFrame_frame (s : State) (f : SensorFrame) : (s.writeFrame f).frame = f := rfl
@[simp] theorem State.writeFrame_cfg (s : State) (f : SensorFrame) : (s.writeFrame f).cfg = s.cfg := rfl
@[simp] theorem State.writeFrame_port (s : State) (f : SensorFrame) : (s.writeFrame f).port = s.port := rfl
@[simp] theorem State.writeFrame_now (s : State) (f : SensorFrame) : (s.writeFrame f).now = s.now := rfl
@[simp] theorem State.writeFrame_res (s : State) (f : SensorFrame) : (s.writeFrame f).res = s.res := rfl

/-! ### `State.returns` -/

@[simp] theorem State.returns_fs (s : State) (r : Result) : (s.returns r).fs = s.fs := rfl
@[simp] theorem State.returns_fill (s : State) (r : Result) : (s.returns r).fill = s.fill := rfl
@[simp] theorem State.returns_buf (s : State) (r : Result) : (s.returns r).buf = s.buf := rfl
@[simp] theorem State.returns_mode (s : State) (r : Result) : (s.returns r).mode = s.mode := rfl
@[simp] theorem State.returns_newData (s : State) (r : Result) : (s.returns r).newData = s.newData := rfl
@[simp] theorem State.returns_lastGood (s : State) (r : Result) : (s.returns r).lastGood = s.lastGood := rfl
@[simp] theorem State.returns_goodCnt (s : State) (r : Result) : (s.returns r).goodCnt = s.goodCnt := rfl
@[simp] theorem State.returns_badCnt (s : State) (r : Result) : (s.returns r).badCnt = s.badCnt := rfl
@[simp] theorem State.returns_tGood (s : State) (r : Result) : (s.returns r).tGood = s.tGood := rfl
@[simp] theorem State.returns_frame (s : State) (r : Result) : (s.returns r).frame = s.frame := rfl
@[simp] theorem State.returns_cfg (s : State) (r : Result) : (s.returns r).cfg = s.cfg := rfl
@[simp] theorem State.returns_port (s : State) (r : Result) : (s.returns r).port = s.port := rfl
@[simp] theorem State.returns_now (s : State) (r : Result) : (s.returns r).now = s.now := rfl
@[simp] theorem State.returns_res (s : State) (r : Result) : (s.returns r).res = r := rfl

/-! ### `State.packetEvent` -/

@[simp] theorem State.packetEvent_fs (s : State) : s.packetEvent.fs = .seekByte 0 := rfl
@[simp] theorem State.packetEvent_fill (s : State) : s.packetEvent.fill = 0 := rfl
@[simp] theorem State.packetEvent_buf (s : State) : s.packetEvent.buf = s.buf := rfl
@[simp] theorem State.packetEvent_mode (s : State) : s.packetEvent.mode = s.mode := rfl
@[simp] theorem State.packetEvent_newData (s : State) : s.packetEvent.newData = true := rfl
@[simp] theorem State.packetEvent_lastGood (s : State) : s.packetEvent.lastGood = s.lastGood := rfl
@[simp] theorem State.packetEvent_goodCnt (s : State) : s.packetEvent.goodCnt = s.goodCnt := rfl
@[simp] theorem State.packetEvent_badCnt (s : State) : s.packetEvent.badCnt = s.badCnt := rfl
@[simp] theorem State.packetEvent_tGood (s : State) : s.packetEvent.tGood = s.tGood := rfl
@[simp] theorem State.packetEvent_frame (s : State) : s.packetEvent.frame = s.frame := rfl
@[simp] theorem State.packetEvent_cfg (s : State) : s.packetEvent.cfg = s.cfg := rfl
@[simp] theorem State.packetEvent_port (s : State) : s.packetEvent.port = s.port := rfl
@[simp] theorem State.packetEvent_now (s : State) : s.packetEvent.now = s.now := rfl
@[simp] theorem State.packetEvent_res (s : State) : s.packetEvent.res = .evt true := rfl

/-! ### `State.idle` -/

@[simp] theorem State.idle_fs (s : State) : s.idle.fs = s.fs := rfl
@[simp] theorem State.idle_fill (s : State) : s.idle.fill = s.fill := rfl
@[simp] theorem State.idle_buf (s : State) : s.idle.buf = s.buf := rfl
@[simp] theorem State.idle_mode (s : State) : s.idle.mode = s.mode := rfl
@[simp] theorem State.idle_newData (s : State) : s.idle.newData = s.newData := rfl
@[simp] theorem State.idle_lastGood (s : State) : s.idle.lastGood = s.lastGood := rfl
@[simp] theorem State.idle_goodCnt (s : State) : s.idle.goodCnt = s.goodCnt := rfl
@[simp] theorem State.idle_badCnt (s : State) : s.idle.badCnt = s.badCnt := rfl
@[simp] theorem State.idle_tGood (s : State) : s.idle.tGood = s.tGood := rfl
@[simp] theorem State.idle_frame (s : State) : s.idle.frame = s.frame := rfl
@[simp] theorem State.idle_cfg (s : State) : s.idle.cfg = s.cfg := rfl
@[simp] theorem State.idle_port (s : State) : s.idle.port = s.port := rfl
@[simp] theorem State.idle_now (s : State) : s.idle.now = s.now := rfl
@[simp] theorem State.idle_res (s : State) : s.idle.res = s.res := rfl

/-! ### `State.takeInput` -/

@[simp] theorem State.takeInput_fs (s : State) (rest : List Input) : (s.takeInput rest).fs = s.fs := rfl
@[simp] theorem State.takeInput_fill (s : State) (rest : List Input) : (s.takeInput rest).fill = s.fill := rfl
@[simp] theorem State.takeInput_buf (s : State) (rest : List Input) : (s.takeInput rest).buf = s.buf := rfl
@[simp] theorem State.takeInput_mode (s : State) (rest : List Input) : (s.takeInput rest).mode = s.mode := rfl
@[simp] theorem State.takeInput_newData (s : State) (rest : List Input) : (s.takeInput rest).newData = s.newData := rfl
@[simp] theorem State.takeInput_lastGood (s : State) (rest : List Input) : (s.takeInput rest).lastGood = s.lastGood := rfl
@[simp] theorem State.takeInput_goodCnt (s : State) (rest : List Input) : (s.takeInput rest).goodCnt = s.goodCnt := rfl
@[simp] theorem State.takeInput_badCnt (s : State) (rest : List Input) : (s.takeInput rest).badCnt = s.badCnt := rfl
@[simp] theorem State.takeInput_tGood (s : State) (rest : List Input) : (s.takeInput rest).tGood = s.tGood := rfl
@[simp] theorem State.takeInput_frame (s : State) (rest : List Input) : (s.takeInput rest).frame = s.frame := rfl
@[simp] theorem State.takeInput_cfg (s : State) (rest : List Input) : (s.takeInput rest).cfg = s.cfg := rfl
@[simp] theorem State.takeInput_port (s : State) (rest : List Input) : (s.takeInput rest).port = rest := rfl
@[simp] theorem State.takeInput_now (s : State) (rest : List Input) : (s.takeInput rest).now = s.now := rfl
@[simp] theorem State.takeInput_res (s : State) (rest : List Input) : (s.takeInput rest).res = s.res := rfl

/-! ### `State.sampleClock` -/

@[simp] theorem State.sampleClock_fs (s : State) (n : Word) : (s.sampleClock n).fs = s.fs := rfl
@[simp] theorem State.sampleClock_fill (s : State) (n : Word) : (s.sampleClock n).fill = s.fill := rfl
@[simp] theorem State.sampleClock_buf (s : State) (n : Word) : (s.sampleClock n).buf = s.buf := rfl
@[simp] theorem State.sampleClock_mode (s : State) (n : Word) : (s.sampleClock n).mode = s.mode := rfl
@[simp] theorem State.sampleClock_newData (s : State) (n : Word) : (s.sampleClock n).newData = s.newData := rfl
@[simp] theorem State.sampleClock_lastGood (s : State) (n : Word) : (s.sampleClock n).lastGood = s.lastGood := rfl
@[simp] theorem State.sampleClock_goodCnt (s : State) (n : Word) : (s.sampleClock n).goodCnt = s.goodCnt := rfl
@[simp] theorem State.sampleClock_badCnt (s : State) (n : Word) : (s.sampleClock n).badCnt = s.badCnt := rfl
@[simp] theorem State.sampleClock_tGood (s : State) (n : Word) : (s.sampleClock n).tGood = s.tGood := rfl
@[simp] theorem State.sampleClock_frame (s : State) (n : Word) : (s.sampleClock n).frame = s.frame := rfl
@[simp] theorem State.sampleClock_cfg (s : State) (n : Word) : (s.sampleClock n).cfg = s.cfg := rfl
@[simp] theorem State.sampleClock_port (s : State) (n : Word) : (s.sampleClock n).port = s.port := rfl
@[simp] theorem State.sampleClock_now (s : State) (n : Word) : (s.sampleClock n).now = n := rfl
@[simp] theorem State.sampleClock_res (s : State) (n : Word) : (s.sampleClock n).res = s.res := rfl

/-! ### `State.reservedWord` -/

@[simp] theorem State.reservedWord_fs (s : State) : s.reservedWord.fs = s.fs := rfl
@[simp] theorem State.reservedWord_fill (s : State) : s.reservedWord.fill = s.fill := rfl
@[simp] theorem State.reservedWord_buf (s : State) : s.reservedWord.buf = s.buf := rfl
@[simp] theorem State.reservedWord_mode (s : State) : s.reservedWord.mode = s.mode := rfl
@[simp] theorem State.reservedWord_newData (s : State) : s.reservedWord.newData = s.newData := rfl
@[simp] theorem State.reservedWord_lastGood (s : State) : s.reservedWord.lastGood = s.lastGood := rfl
@[simp] theorem State.reservedWord_goodCnt (s : State) : s.reservedWord.goodCnt = s.goodCnt := rfl
@[simp] theorem State.reservedWord_badCnt (s : State) : s.reservedWord.badCnt = s.badCnt := rfl
@[simp] theorem State.reservedWord_tGood (s : State) : s.reservedWord.tGood = s.tGood := rfl
@[simp] theorem State.reservedWord_frame (s : State) : s.reservedWord.frame = s.frame := rfl
@[simp] theorem State.reservedWord_cfg (s : State) : s.reservedWord.cfg = s.cfg := rfl
@[simp] theorem State.reservedWord_port (s : State) : s.reservedWord.port = s.port := rfl
@[simp] theorem State.reservedWord_now (s : State) : s.reservedWord.now = s.now := rfl
@[simp] theorem State.reservedWord_res (s : State) : s.reservedWord.res = .unit := rfl

/-! ### `State.resetEvent` -/

@[simp] theorem State.resetEvent_fs (s : State) (d : ResetDraw) : (s.resetEvent d).fs = .seekByte 0 := rfl
@[simp] theorem State.resetEvent_fill (s : State) (d : ResetDraw) : (s.resetEvent d).fill = 0 := rfl
@[simp] theorem State.resetEvent_buf (s : State) (d : ResetDraw) : (s.resetEvent d).buf = Memory.ofVector d.buf := rfl
@[simp] theorem State.resetEvent_mode (s : State) (d : ResetDraw) : (s.resetEvent d).mode = s.cfg.defaultMode := rfl
@[simp] theorem State.resetEvent_newData (s : State) (d : ResetDraw) : (s.resetEvent d).newData = false := rfl
@[simp] theorem State.resetEvent_lastGood (s : State) (d : ResetDraw) : (s.resetEvent d).lastGood = false := rfl
@[simp] theorem State.resetEvent_goodCnt (s : State) (d : ResetDraw) : (s.resetEvent d).goodCnt = 0 := rfl
@[simp] theorem State.resetEvent_badCnt (s : State) (d : ResetDraw) : (s.resetEvent d).badCnt = 0 := rfl
@[simp] theorem State.resetEvent_tGood (s : State) (d : ResetDraw) : (s.resetEvent d).tGood = d.tGood := rfl
@[simp] theorem State.resetEvent_frame (s : State) (d : ResetDraw) : (s.resetEvent d).frame = d.frame := rfl
@[simp] theorem State.resetEvent_cfg (s : State) (d : ResetDraw) : (s.resetEvent d).cfg = s.cfg := rfl
@[simp] theorem State.resetEvent_port (s : State) (d : ResetDraw) : (s.resetEvent d).port = s.port := rfl
@[simp] theorem State.resetEvent_now (s : State) (d : ResetDraw) : (s.resetEvent d).now = s.now := rfl
@[simp] theorem State.resetEvent_res (s : State) (d : ResetDraw) : (s.resetEvent d).res = .unit := rfl

end Sys2Proof.Machine
end

