-- ==== Sys2Proof/Laws/Framer.lean ====
section
/-! SUPPORT. Everything BYTE can do, said once, and small facts about the framer's tests. -/

namespace Sys2Proof.Machine

@[simp] theorem nextSeek_last : nextSeek 3 = .collecting := rfl

theorem payloadLen_le_bufCap (m : DataMode) : payloadLen m ≤ bufCap := by cases m <;> decide

theorem payloadLen_pos (m : DataMode) : 0 < payloadLen m := by cases m <;> decide

/-- Under the test of R113 the fill count advances by exactly one: it does not wrap (R25). -/
theorem fill_succ_toNat {f : BitVec 5} {m : DataMode} (h : f.toNat < payloadLen m) : (f + 1).toNat = f.toNat + 1 := by
  have hm := payloadLen_le_bufCap m
  have : f.toNat + 1 < 2 ^ 5 := by unfold bufCap at hm; omega
  rw [BitVec.toNat_add, show (1 : BitVec 5).toNat = 1 from rfl]
  omega

theorem modeOf_modeNumber (cfg : Config) (m : DataMode) : modeOf cfg (modeNumber m) = m := by
  cases m <;> simp [modeOf, modeNumber]

/-- The five things a byte can do. -/
theorem State.consumeByte_cases (s : State) (b : Byte) :
    (∃ k, s.fs = .seekByte k ∧ b = s.cfg.magic[k] ∧ s.consumeByte b = (s.goto (nextSeek k)).returns (.evt false)) ∨
    (∃ k, s.fs = .seekByte k ∧ b ≠ s.cfg.magic[k] ∧ s.consumeByte b = (s.goto (.seekByte 0)).returns (.evt false)) ∨
    (s.fs = .collecting ∧ s.fill.toNat < payloadLen s.mode ∧
      s.consumeByte b = (s.storePayload b).returns (.evt false)) ∨
    (s.fs = .collecting ∧ payloadLen s.mode ≤ s.fill.toNat ∧ b = termByte ∧ s.consumeByte b = s.goodPacket) ∨
    (s.fs = .collecting ∧ payloadLen s.mode ≤ s.fill.toNat ∧ b ≠ termByte ∧ s.consumeByte b = s.badPacket) := by
  unfold State.consumeByte
  cases hfs : s.fs with
  | seekByte k =>
    by_cases hb : b = s.cfg.magic[k]
    · exact .inl ⟨k, rfl, hb, by simp only [State.seekStep, if_pos hb]⟩
    · exact .inr (.inl ⟨k, rfl, hb, by simp only [State.seekStep, if_neg hb]⟩)
  | collecting =>
    by_cases hf : s.fill.toNat < payloadLen s.mode
    · exact .inr (.inr (.inl ⟨rfl, hf, by simp only [State.collectStep, if_pos hf]⟩))
    · by_cases hb : b = termByte
      · exact .inr (.inr (.inr (.inl ⟨rfl, by omega, hb, by simp only [State.collectStep, if_neg hf, if_pos hb]⟩)))
      · exact .inr (.inr (.inr (.inr ⟨rfl, by omega, hb, by simp only [State.collectStep, if_neg hf, if_neg hb]⟩)))

/-- No byte changes the parameters, the mode, the port or the clock input. -/
theorem State.consumeByte_keeps (s : State) (b : Byte) :
    (s.consumeByte b).cfg = s.cfg ∧ (s.consumeByte b).mode = s.mode ∧ (s.consumeByte b).port = s.port ∧
      (s.consumeByte b).now = s.now := by
  rcases s.consumeByte_cases b with ⟨k, _, _, h⟩ | ⟨k, _, _, h⟩ | ⟨_, _, h⟩ | ⟨_, _, _, h⟩ | ⟨_, _, _, h⟩ <;>
    rw [h] <;> simp [State.goodPacket, State.badPacket]

/-- BYTE writes the buffer at the index `storeIndex` names, and nowhere if it names none (R65, R113). -/
theorem State.consumeByte_buf (s : State) (b : Byte) :
    (s.consumeByte b).buf = match s.storeIndex with
      | none => s.buf
      | some a => s.buf.write a b := by
  rcases s.consumeByte_cases b with ⟨k, hk, _, h⟩ | ⟨k, hk, _, h⟩ | ⟨hk, hf, h⟩ | ⟨hk, hf, _, h⟩ | ⟨hk, hf, _, h⟩ <;>
    rw [h]
  · simp [State.storeIndex, hk]
  · simp [State.storeIndex, hk]
  · simp [State.storeIndex, hk, hf]
  · simp [State.storeIndex, hk, Nat.not_lt.mpr hf, State.goodPacket]
  · simp [State.storeIndex, hk, Nat.not_lt.mpr hf, State.badPacket]

end Sys2Proof.Machine
end

