-- ==== Sys2Proof/Laws/PerInstr.lean ====
section
/-! SUPPORT. Facts about every operation as syntax, one lemma per constructor. -/

/-- The word of the operation is covered by the row of R81 that has its mnemonic, and by no other row. -/
def Sys2Proof.Laws.EncodingRow.Statement (i : Sys2Proof.Instr) : Prop :=
  ((Sys2Proof.opRows.filter fun r => r.covers (Sys2Proof.encode i)).map Sys2Proof.OpRow.mnemonic) =
    [match i with
      | .byte _ => "BYTE"
      | .setmode _ => "SETMODE"
      | .rdall => "RDALL"
      | .rdgyro => "RDGYRO"
      | .rdeuler => "RDEULER"
      | .qnew _ => "QNEW"
      | .age => "AGE"]

theorem Sys2Proof.Laws.EncodingRow.byte (b : Sys2Proof.Byte) : Statement (.byte b) := by
  unfold Statement; revert b; decide
theorem Sys2Proof.Laws.EncodingRow.setmode (m : Sys2Proof.Byte) : Statement (.setmode m) := by
  unfold Statement; revert m; decide
theorem Sys2Proof.Laws.EncodingRow.rdall : Statement .rdall := by unfold Statement; decide
theorem Sys2Proof.Laws.EncodingRow.rdgyro : Statement .rdgyro := by unfold Statement; decide
theorem Sys2Proof.Laws.EncodingRow.rdeuler : Statement .rdeuler := by unfold Statement; decide
theorem Sys2Proof.Laws.EncodingRow.qnew (c : BitVec 1) : Statement (.qnew c) := by
  unfold Statement; revert c; decide
theorem Sys2Proof.Laws.EncodingRow.age : Statement .age := by unfold Statement; decide
end

