-- ==== Sys2Proof/Laws/Step.lean ====
section
/-! SUPPORT. Everything a step can do, said once, and how runs compose. -/

namespace Sys2Proof.Machine

/-- The next state of an operation. Every meaning answers one (R210). -/
def Instr.next : Instr → State → State
  | .byte b, s => s.consumeByte b
  | .setmode m, s => ((s.setMode (modeOf s.cfg m)).clearFraming).returns .unit
  | .rdall, s => s.clearNewData.returns (.all s.frame.allPart)
  | .rdgyro, s => s.clearNewData.returns (.gyro s.frame.gyroPart)
  | .rdeuler, s => s.clearNewData.returns (.euler s.frame.euler)
  | .qnew c, s => (if clearRequested c then s.clearNewData else s).returns (.flag s.newData)
  | .age, s => s.returns (.age (ageOf s.now s.tGood))

theorem exec_eq_next (i : Instr) (s : State) : exec i s = .next (Instr.next i s) := by cases i <;> rfl

theorem step_of_idle {s : State} (h : s.port = []) : step s = .next s := by simp only [step, h, State.idle]

theorem step_of_rst {s : State} {d : ResetDraw} {rest : List Input} (h : s.port = .rst d :: rest) :
    step s = .next ((s.takeInput rest).resetEvent d) := by simp only [step, h]

theorem step_of_word {s : State} {w : OpWord} {now : Word} {rest : List Input} (h : s.port = .op w now :: rest) :
    step s = performWord w ((s.takeInput rest).sampleClock now) := by simp only [step, h]

theorem performWord_ok {w : OpWord} {i : Instr} (h : decode w = .ok i) (s : State) : performWord w s = exec i s := by
  simp only [performWord, h]

theorem performWord_error {w : OpWord} {e : DecodeError} (h : decode w = .error e) (s : State) :
    performWord w s = .next s.reservedWord := by simp only [performWord, h]

/-- The four things a step can do. -/
theorem step_cases {s t : State} (h : step s = .next t) :
    (s.port = [] ∧ t = s) ∨
    (∃ d rest, s.port = .rst d :: rest ∧ t = (s.takeInput rest).resetEvent d) ∨
    (∃ w now rest e, s.port = .op w now :: rest ∧ decode w = .error e ∧
      t = ((s.takeInput rest).sampleClock now).reservedWord) ∨
    (∃ w now rest i, s.port = .op w now :: rest ∧ decode w = .ok i ∧
      t = Instr.next i ((s.takeInput rest).sampleClock now)) := by
  cases hp : s.port with
  | nil =>
    rw [step_of_idle hp] at h
    exact .inl ⟨rfl, by injection h with h; exact h.symm⟩
  | cons x rest =>
    cases x with
    | rst d =>
      rw [step_of_rst hp] at h
      exact .inr (.inl ⟨d, rest, rfl, by injection h with h; exact h.symm⟩)
    | op w now =>
      rw [step_of_word hp] at h
      cases hd : decode w with
      | error e =>
        rw [performWord_error hd] at h
        exact .inr (.inr (.inl ⟨w, now, rest, e, rfl, hd, by injection h with h; exact h.symm⟩))
      | ok i =>
        rw [performWord_ok hd, exec_eq_next] at h
        exact .inr (.inr (.inr ⟨w, now, rest, i, rfl, hd, by injection h with h; exact h.symm⟩))

@[simp] theorem runSteps_zero (s : State) : runSteps 0 s = .next s := rfl

theorem runSteps_succ {s t : State} (h : step s = .next t) (k : Nat) : runSteps (k + 1) s = runSteps k t := by
  simp only [runSteps, h]

theorem runSteps_add {s t : State} {j : Nat} (h : runSteps j s = .next t) (k : Nat) :
    runSteps (j + k) s = runSteps k t := by
  induction j generalizing s with
  | zero => injection h with h; simp [h]
  | succ j ih =>
    rw [Nat.add_right_comm]
    cases hs : step s with
    | next u =>
      rw [runSteps_succ hs] at h ⊢
      exact ih h
    | fault r => cases r
    | refused r => simp only [runSteps, hs] at h; cases h

end Sys2Proof.Machine
end

