-- ==== Sys2Proof/Laws/Session.lean ====
section
/-! SUPPORT. How the session's operations act on the block. -/

namespace Sys2Proof.Machine

theorem performAt_eq (i : Instr) (now : Word) (s : State) : performAt i now s = Instr.next i (s.sampleClock now) := by
  simp only [performAt, exec_eq_next]

@[simp] theorem Session.perform_link (i : Instr) (h : Session) : (h.perform i).link = h.link := rfl
@[simp] theorem Session.perform_rx (i : Instr) (h : Session) : (h.perform i).rx = h.rx := rfl
@[simp] theorem Session.perform_actions (i : Instr) (h : Session) : (h.perform i).actions = h.actions := rfl
@[simp] theorem Session.act_block (a : HostAction) (h : Session) : (h.act a).block = h.block := rfl
@[simp] theorem Session.act_link (a : HostAction) (h : Session) : (h.act a).link = h.link := rfl
@[simp] theorem Session.act_rx (a : HostAction) (h : Session) : (h.act a).rx = h.rx := rfl
@[simp] theorem Session.act_actions (a : HostAction) (h : Session) : (h.act a).actions = h.actions ++ [a] := rfl

@[simp] theorem drainBytes_nil (s : State) : drainBytes [] s = (false, [], s) := rfl

theorem drainBytes_cons (b : Byte) (now : Word) (rest : List (Byte × Word)) (s : State) :
    drainBytes ((b, now) :: rest) s =
      if (performAt (.byte b) now s).reportedEvent then (true, rest, performAt (.byte b) now s)
      else drainBytes rest (performAt (.byte b) now s) := rfl

/-- The rates of a table differ, so an entry's index is determined by its rate (R193). -/
theorem BaudTable.rates_inj (t : BaudTable) {i j : Fin 9} (h : t.rates[i] = t.rates[j]) : i = j := by
  have hd := List.nodup_iff_injective_get.mp t.distinct
  have := @hd ⟨i, by simp⟩ ⟨j, by simp⟩ (by simpa using h)
  exact Fin.ext (by simpa using this)

/-- What the lookup finds: the entry that holds the rate. -/
theorem BaudTable.identifier_eq_some (t : BaudTable) (rate : Nat) (i : Fin 9) :
    t.identifier rate = some i ↔ t.rates[i] = rate := by
  unfold BaudTable.identifier
  constructor
  · intro h
    simpa using List.find?_some h
  · rintro rfl
    cases hf : (List.finRange 9).find? fun j => t.rates[j] == t.rates[i] with
    | none => simpa using List.find?_eq_none.mp hf i (List.mem_finRange i)
    | some j => exact congrArg some (t.rates_inj (by simpa using List.find?_some hf))

/-- The lookup finds nothing exactly when no entry holds the rate. -/
theorem BaudTable.identifier_eq_none (t : BaudTable) (rate : Nat) :
    t.identifier rate = none ↔ rate ∉ t.rates.toList := by
  rw [Option.eq_none_iff_forall_ne_some]
  simp only [ne_eq, BaudTable.identifier_eq_some, List.mem_iff_getElem, not_exists]
  exact ⟨fun h i hi he => h ⟨i, by simpa using hi⟩ (by simpa using he),
    fun h i he => h i (by simp) (by simpa using he)⟩

theorem Session.poll_actions (d : Bool) (h : Session) : (h.poll d).2.actions = h.actions := by
  cases d with
  | true => rfl
  | false => cases hr : h.rx <;> simp [Session.poll, hr]

theorem Session.poll_link (d : Bool) (h : Session) : (h.poll d).2.link = h.link := by
  cases d with
  | true => rfl
  | false => cases hr : h.rx <;> simp [Session.poll, hr]

end Sys2Proof.Machine
end

