-- ==== Sys2Proof/Tests/Slice0.lean ====
section
/-! SUPPORT. Tests with expected results from spec/95_test_vectors.md and the worked examples of the rules, and for every
statement with hypotheses a witness that meets them. The magic sequence is the vectors' test value (D27), not the device's. -/

open Sys2Proof Sys2Proof.Machine

/-! ## Helpers -/

/-- The test magic of 95_test_vectors.md. -/
def Sys2Proof.Tests.cfg : Config := ⟨#v[0xA5, 0x5A, 0xC3, 0x3C], .all⟩

/-- A small state: the given framing state, fill count and mode, everything else at a fixed value. -/
def Sys2Proof.Tests.st (fs : FramerState) (fill : BitVec 5) (mode : DataMode) : State where
  fs := fs
  fill := fill
  buf := []
  mode := mode
  newData := false
  lastGood := false
  goodCnt := 0
  badCnt := 0
  tGood := 1500
  frame := ⟨⟨1, 2, 3⟩, ⟨4, 5, 6⟩, ⟨7, 8, 9⟩, ⟨10, 11, 12⟩, 13, ⟨14, 15, 16⟩⟩
  cfg := Sys2Proof.Tests.cfg
  port := []
  now := 77
  res := .unit

/-- The state an outcome answers. -/
def Sys2Proof.Tests.after (o : Host.Outcome State Fault Refusal) (s : State) : State :=
  match o with
  | .next t => t
  | _ => s

/-- The state after one operation. -/
def Sys2Proof.Tests.run (i : Instr) (s : State) : State := Sys2Proof.Tests.after (exec i s) s

/-- A payload waiting for its terminator. -/
def Sys2Proof.Tests.full (mode : DataMode) (payload : List Byte) : State :=
  { Sys2Proof.Tests.st .collecting (BitVec.ofNat 5 (payloadLen mode)) mode with buf := Memory.ofBytesFrom 0 payload }

open Sys2Proof.Tests

/-! ## Decoding (30_encoding.md R81: each pattern written out) -/

theorem test_decode_byte : decode 0b00010100101#11 = .ok (.byte 0xA5) := by decide
theorem test_decode_setmode : decode 0b00111111111#11 = .ok (.setmode 0xFF) := by decide
theorem test_decode_rdall : decode 0b01000000000#11 = .ok .rdall := by decide
theorem test_decode_rdgyro : decode 0b01000000001#11 = .ok .rdgyro := by decide
theorem test_decode_rdeuler : decode 0b01000000010#11 = .ok .rdeuler := by decide
theorem test_decode_qnew0 : decode 0b01100000000#11 = .ok (.qnew 0) := by decide
theorem test_decode_qnew1 : decode 0b01100000001#11 = .ok (.qnew 1) := by decide
theorem test_decode_age : decode 0b10000000000#11 = .ok .age := by decide
/-- V-R Z2 to Z5: reserved words, each rejected by its name. -/
theorem test_decode_reserved :
    decode 0x500#11 = .error .reservedOpcode ∧ decode 0x6AB#11 = .error .reservedOpcode ∧
    decode 0x7FF#11 = .error .reservedOpcode ∧ decode 0x203#11 = .error .reservedReadSelector ∧
    decode 0x302#11 = .error .reservedQueryOperand ∧ decode 0x401#11 = .error .reservedAgeOperand := by decide
theorem test_decodeTableWord :
    decodeTableWord 16 0x0A5 = some (.byte 0xA5) ∧ decodeTableWord 16 0x301 = some (.qnew 1) ∧
    decodeTableWord 16 0x203 = none ∧ decodeTableWord 16 0x800 = none := by decide
/-- P1: words of its trace. -/
theorem test_encode_words :
    encode (.setmode 0x01) = 0x101#11 ∧ encode (.byte 0x0A) = 0x00A#11 ∧ encode (.qnew 0) = 0x300#11 ∧
    encode .age = 0x400#11 := by decide

/-! ## WellFormed: one reserved word for each way R91 lists, refused -/

theorem test_wf_reserved_opcode : wordWellFormed 0x500#11 = false ∧ wordWellFormed 0x6AB#11 = false ∧
    wordWellFormed 0x7FF#11 = false := by decide
theorem test_wf_reserved_read : wordWellFormed 0x203#11 = false := by decide
theorem test_wf_reserved_query : wordWellFormed 0x302#11 = false := by decide
theorem test_wf_reserved_age : wordWellFormed 0x401#11 = false := by decide
theorem test_wf_program : programWellFormed [0x101#11, 0x0A5#11, 0x400#11] = true ∧
    programWellFormed [0x101#11, 0x203#11] = false := by decide

/-! ## BYTE (V-F) -/

/-- F12 with the payload of S-B: a good packet in mode GYRO. -/
theorem test_byte_good :
    let t := run (.byte 0x0A) (full .gyro [0x01, 0x00, 0xFF, 0x00, 0x00, 0x00])
    t.res = .evt true ∧ t.goodCnt = 1 ∧ t.tGood = 77 ∧ t.newData = true ∧ t.fs = .seekByte 0 ∧
    t.frame = ⟨⟨1, 2, 3⟩, ⟨4, 5, 6⟩, ⟨0x3F800000, 0xBF800000, 0⟩, ⟨100, -100, 0⟩, 0, ⟨14, 15, 16⟩⟩ := by decide
/-- F5, F7: a repeated first magic byte is not re-used. -/
theorem test_byte_desync :
    (run (.byte 0xA5) (st (.seekByte 1) 0 .all)).fs = .seekByte 0 ∧
    (run (.byte 0xA5) (st (.seekByte 2) 0 .all)).fs = .seekByte 0 := by decide
/-- F17, F10: `0x0A` below the payload length is payload. -/
theorem test_byte_payload :
    (run (.byte 0x0A) (st .collecting 29 .all)).fill = 30 ∧
    (run (.byte 0x0A) (st .collecting 29 .all)).buf.read 29 = 0x0A ∧
    (run (.byte 0x0A) (st .collecting 0 .gyro)).fs = .collecting := by decide
/-- F14, F20. -/
theorem test_byte_bad_and_wrap :
    (run (.byte 0xA5) (st .collecting 6 .gyro)).fs = .seekByte 0 ∧
    (run (.byte 0xA5) (st .collecting 6 .gyro)).badCnt = 1 ∧
    (run (.byte 0x0A) { st .collecting 6 .gyro with goodCnt := 0xFFFFFFFF }).goodCnt = 0 := by decide

/-! ## The decoder (V-W, V-C, R138, P2) -/

theorem test_wide : wide (Memory.ofBytesFrom 0 [0x7F, 0xA0, 0x00, 0x01]) 0 = 0x7FA00001 ∧
    wide (Memory.ofBytesFrom 0 [0x00, 0x00, 0x80, 0x3F]) 0 = 0x0000803F := by decide
/-- V-C: signs, and the two sums outside 16 bits. -/
theorem test_checksum :
    gyroChk 390 (-781) 117 = -4 ∧ gyroChk (-100) (-100) (-1) = -1 ∧ gyroChk 12799 12799 12799 = 7 ∧
    gyroChk (-12800) (-12800) (-12800) = 0 := by decide
/-- The example of R138. -/
theorem test_decode_euler :
    (decodePayload .euler (Memory.ofBytesFrom 0 [0x3F, 0x80, 0, 0, 0xC0, 0, 0, 0, 0x7F, 0xC0, 0, 0])
      (st .collecting 0 .all).frame).euler = ⟨0x3F800000, 0xC0000000, 0x7FC00000⟩ := by decide
/-- The first packet of P2. -/
theorem test_decode_all :
    decodePayload .all (Memory.ofBytesFrom 0
      [0x3F, 0x80, 0, 0, 0xBF, 0x80, 0, 0, 0x40, 0x49, 0x0F, 0xDB, 0x42, 0x28, 0, 0, 0xC2, 0x28, 0, 0, 0, 0, 0, 0,
       0x12, 0x34, 0xED, 0xCC, 0x00, 0x03]) (st .collecting 0 .all).frame =
      ⟨⟨0x3F800000, 0xBF800000, 0x40490FDB⟩, ⟨0x42280000, 0xC2280000, 0⟩, ⟨0x4191A000, 0xC191A000, 0x3C400000⟩,
       ⟨1820, -1820, 1⟩, 1, ⟨14, 15, 16⟩⟩ := by decide

/-! ## SETMODE (V-M), accessors (V-A) -/

/-- M1, M4. -/
theorem test_setmode_clears :
    let t := run (.setmode 0x01) (st .collecting 30 .all)
    t.fs = .seekByte 0 ∧ t.fill = 0 ∧ t.mode = .gyro ∧ t.badCnt = 0 ∧ t.tGood = 1500 := by decide
/-- M5, M6, M7. -/
theorem test_setmode_coerces :
    (run (.setmode 0x03) (st (.seekByte 3) 0 .euler)).mode = .all ∧
    (run (.setmode 0xFF) { st (.seekByte 3) 0 .euler with newData := true }).newData = true := by decide
theorem test_rdall : (run .rdall { st (.seekByte 0) 0 .gyro with newData := true }).res =
      .all ⟨⟨1, 2, 3⟩, ⟨4, 5, 6⟩, ⟨7, 8, 9⟩, ⟨10, 11, 12⟩, 13⟩ ∧
    (run .rdall { st (.seekByte 0) 0 .gyro with newData := true }).newData = false := by decide
theorem test_rdgyro : (run .rdgyro (st (.seekByte 0) 0 .all)).res = .gyro ⟨⟨7, 8, 9⟩, ⟨10, 11, 12⟩, 13⟩ := by decide
/-- A11. -/
theorem test_rdeuler : (run .rdeuler { st (.seekByte 0) 0 .gyro with newData := true }).res = .euler ⟨14, 15, 16⟩ ∧
    (run .rdeuler { st (.seekByte 0) 0 .gyro with newData := true }).newData = false := by decide
/-- A1, A2, A3. -/
theorem test_qnew :
    (run (.qnew 0) { st (.seekByte 0) 0 .all with newData := true }).newData = true ∧
    (run (.qnew 1) { st (.seekByte 0) 0 .all with newData := true }).newData = false ∧
    (run (.qnew 1) { st (.seekByte 0) 0 .all with newData := true }).res = .flag true ∧
    (run (.qnew 1) (st (.seekByte 0) 0 .all)).res = .flag false := by decide
/-- A7, A8, A9. -/
theorem test_age :
    (run .age { st (.seekByte 0) 0 .all with now := 2000 }).res = .age 500 ∧
    (run .age { st (.seekByte 0) 0 .all with now := 0x00000100, tGood := 0xFFFFFF00 }).res = .age 0x200 ∧
    (run .age { st (.seekByte 0) 0 .all with now := 1500, tGood := 2000 }).res = .age 0xFFFFFE0C := by decide

/-! ## The step -/

/-- V-R Z3: a reserved word does not clear `new_data`. -/
theorem test_step_reserved :
    let s := { st (.seekByte 0) 0 .all with newData := true, port := [.op 0x203#11 5] }
    (after (step s) s).newData = true ∧ (after (step s) s).res = .unit ∧ (after (step s) s).port = [] := by decide
/-- V-R Z1: RESET, whatever it draws. -/
theorem test_step_reset :
    let d : ResetDraw := ⟨Vector.replicate 30 0x99, 4, (st .collecting 0 .all).frame⟩
    let s := { st .collecting 9 .gyro with goodCnt := 5, port := [.rst d] }
    let t := after (step s) s
    t.fs = .seekByte 0 ∧ t.fill = 0 ∧ t.mode = .all ∧ t.goodCnt = 0 ∧ t.tGood = 4 ∧ t.buf.read 29 = 0x99 := by decide
theorem test_step_idle : step (st .collecting 3 .all) = .next (st .collecting 3 .all) := rfl
/-- From reset, a presented word is the first thing performed. -/
theorem test_step_from_reset : ∃ t, step (State.reset.withFetchWord 16 0x101) = .next t ∧ t.mode = .gyro := ⟨_, rfl, rfl⟩
theorem test_core_run : Host.Core.run Sys2Proof.core 2 State.reset = .next State.reset := rfl
/-- The trace notation: `GOODFRAME` in mode GYRO is eleven inputs, magic first. -/
theorem test_trace_goodframe :
    (presentGoodFrame cfg [1, 0, 0xFF, 0, 0, 0] 9).length = frameLen .gyro ∧
    (presentGoodFrame cfg [1, 0, 0xFF, 0, 0, 0] 9).take 2 = [.op 0x0A5#11 9, .op 0x05A#11 9] := by decide

/-! ## The host (S-D, S-P5, S-T) -/

/-- A table of nine rates that R193 admits: a test value, not the device's (N11). -/
def Sys2Proof.Tests.table : BaudTable where
  rates := #v[2400, 4800, 9600, 14400, 19200, 38400, 57600, 76800, 115200]
  distinct := by decide
  lowest := by decide
  highest := by decide
  within := by decide
  nonUniform := by decide

/-- The session of Scenario D at its last byte. -/
def Sys2Proof.Tests.sessionD : Session :=
  ⟨st .collecting 6 .gyro, table, ⟨true, none, 0, false⟩, [(0x0D, 50), (0xA5, 51)], []⟩

/-- S-D: false, and `#f` (23 66) exactly once. -/
theorem test_scenarioD :
    (sessionD.pollValid true).1 = false ∧ (sessionD.pollValid true).2.actions = [.write [0x23, 0x66]] ∧
    (sessionD.pollValid true).2.block.newData = false ∧ (sessionD.pollValid true).2.rx = [(0xA5, 51)] := by decide
/-- S-T: the interval 1000 is 23 69 03 E8; `#o1` is 23 6F 31; `#z` is 23 7A. -/
theorem test_commands :
    (sessionD.setUpdateInterval 1000).actions = [.write [0x23, 0x69, 0x03, 0xE8]] ∧
    (sessionD.setContinuousStream true).actions = [.write [0x23, 0x6F, 0x31]] ∧
    sessionD.zeroCalibrate.actions = [.write [0x23, 0x7A]] := by decide
/-- R183: a session starts closed. -/
theorem test_created : Session.Created ⟨st (.seekByte 0) 0 .all, table, ⟨false, none, 0, false⟩, [], []⟩ := ⟨rfl, rfl⟩
/-- S-P5. -/
theorem test_baud_1200 : sessionD.setBaudRate 1200 false = sessionD := by decide

/-! ## Witnesses: the hypotheses of each statement are met -/

theorem witness_DecodeInvertsEncode : (Instr.byte 0xFF).wellFormed = true ∧ (Instr.qnew 1).wellFormed = true := by decide
theorem witness_EncodeInvertsDecode : decode 0x0FF#11 = .ok (.byte 0xFF) := by decide
theorem witness_ReservedWordChangesNothing :
    (5 ≤ (5#3).toNat ∧ { st .collecting 3 .all with port := [.op (5#3 ++ 0#8) 1] }.port = [.op (5#3 ++ 0#8) 1]) ∧
    3 ≤ (3#8).toNat ∧ 2 ≤ (2#8).toNat ∧ 1 ≤ (1#8).toNat := by decide
theorem witness_StepRunsDecodedOperation :
    { st .collecting 3 .all with port := [.op 0x400#11 1] }.port = [.op 0x400#11 1] ∧ decode 0x400#11 = .ok .age := by decide
theorem witness_IdleStepHoldsState : (st .collecting 3 .all).port = [] := rfl
theorem witness_ResetEventInitialises :
    ∃ (s : State) (d : ResetDraw), s.port = [.rst d] :=
  ⟨{ st .collecting 3 .all with port := [.rst ⟨Vector.replicate 30 0, 0, (st .collecting 0 .all).frame⟩] }, _, rfl⟩
theorem witness_SeekMatchAdvances :
    (st (.seekByte 0) 0 .all).fs = .seekByte 0 ∧ 0xA5#8 = (st (.seekByte 0) 0 .all).cfg.magic[(0 : Fin 4)] ∧
    (st (.seekByte 3) 0 .all).fs = .seekByte 3 ∧ 0x3C#8 = (st (.seekByte 3) 0 .all).cfg.magic[(3 : Fin 4)] := by decide
theorem witness_SeekMismatchRestarts :
    (st (.seekByte 2) 0 .all).fs = .seekByte 2 ∧ 0xA5#8 ≠ (st (.seekByte 2) 0 .all).cfg.magic[(2 : Fin 4)] := by decide
theorem witness_PayloadByteIsStored :
    (st .collecting 29 .all).fs = .collecting ∧ (st .collecting 29 .all).fill.toNat < payloadLen .all ∧
    (st .collecting 29 .all).buf.wf = true := by decide
theorem witness_GoodPacketCompletes :
    (st .collecting 6 .gyro).fs = .collecting ∧ payloadLen .gyro ≤ (st .collecting 6 .gyro).fill.toNat := by decide
theorem witness_BadPacketCompletes :
    (st .collecting 12 .euler).fs = .collecting ∧ payloadLen .euler ≤ (st .collecting 12 .euler).fill.toNat ∧
    0x0D#8 ≠ 0x0A#8 := by decide
theorem witness_AwaitsTerminator : (st .collecting 30 .all).AwaitsTerminator := ⟨rfl, by decide⟩
theorem witness_not_AwaitsTerminator : ¬ (st .collecting 29 .all).AwaitsTerminator := fun h => absurd h.2 (by decide)
/-- EventResultDoesNotTellGoodFromBad: each clause, one below and one at the payload length. -/
theorem witness_EventResultDoesNotTellGoodFromBad :
    (∃ t, exec (.byte 0x0D) (st .collecting 30 .all) = .next t) ∧ (st .collecting 30 .all).AwaitsTerminator ∧
    (∃ t, exec (.byte 0x0A) (st .collecting 29 .all) = .next t) ∧ ¬ (st .collecting 29 .all).AwaitsTerminator :=
  ⟨⟨_, rfl⟩, witness_AwaitsTerminator, ⟨_, rfl⟩, witness_not_AwaitsTerminator⟩
/-- ByteFrame: the storing form at the last index, the terminator forms at the length, a `Seek` state. -/
theorem witness_ByteFrame :
    (st .collecting 29 .all).buf.wf = true ∧ (st .collecting 29 .all).fill.toNat < payloadLen .all ∧
    (∃ t, exec (.byte 0x0A) (st .collecting 29 .all) = .next t) ∧
    (∃ t, exec (.byte 0x0A) (st .collecting 30 .all) = .next t) ∧ (st .collecting 30 .all).AwaitsTerminator ∧
    (∃ t, exec (.byte 0x0A) { st (.seekByte 0) 0 .all with newData := true } = .next t) ∧
    (st (.seekByte 0) 0 .all).fs ≠ .collecting :=
  ⟨rfl, by decide, ⟨_, rfl⟩, ⟨_, rfl⟩, witness_AwaitsTerminator, ⟨_, rfl⟩, by decide⟩
theorem witness_BufferIsNeverCleared :
    (∃ t, exec (.byte 0x0D) (st .collecting 30 .all) = .next t ∧ t.fill.toNat ≤ 0) ∧
    (∃ t, exec (.setmode 1) (st .collecting 30 .all) = .next t) ∧
    ∃ t, exec (.byte 0x0D) (st .collecting 29 .all) = .next t ∧ t.fill.toNat ≤ 30 :=
  ⟨⟨_, rfl, by decide⟩, ⟨_, rfl⟩, _, rfl, by decide⟩
theorem witness_RepeatedFirstMagicByteMissesFrame :
    (st (.seekByte 0) 0 .all).fs = .seekByte 0 ∧ cfg.magic[0] ≠ cfg.magic[1] ∧
    ∃ s : State, s.cfg = cfg ∧ s.fs = .seekByte 0 ∧
      s.port = presentBytes (atTime 9 (s.cfg.magic[0] :: s.cfg.magic.toList)) ++ [] :=
  ⟨rfl, by decide,
   { st (.seekByte 0) 0 .all with
      port := presentBytes (atTime 9 (cfg.magic[0] :: cfg.magic.toList)) ++ [] },
   rfl, rfl, rfl⟩
theorem witness_CanonicalBuffersAreEqual :
    Memory.wf [(0, 1#8), (29, 2#8)] = true ∧ Memory.wf (Memory.write [(29, 2#8)] 0 1#8) = true ∧
    ∀ i, i < 30 → Memory.read [(0, 1#8), (29, 2#8)] i = (Memory.write [(29, 2#8)] 0 1#8).read i := by decide
theorem witness_GyroFloatFields :
    (-32768 : Int) ≠ 0 ∧ 2 ^ 15 ≤ (-32768 : Int).natAbs ∧ (-32768 : Int).natAbs < 2 ^ (15 + 1) ∧
    2 ^ 0 ≤ (1 : Int).natAbs ∧ (1 : Int).natAbs < 2 ^ (0 + 1) := by decide
theorem witness_GyroFloatIsInjective : gyroF (signed16 0xFFFF#16) = gyroF (signed16 0xFFFF#16) := rfl
/-- DerivedIntegerTruncates, ChecksumKeepsSign: the clauses meet at 0, where both say the same. -/
theorem witness_DerivedIntegerTruncates : gyroI 0 = 0 ∧ gyroI 32767 = 12799 ∧ gyroI (-32768) = -12800 := by decide
theorem witness_ChecksumKeepsSign : gyroChk 0 0 0 = 0 ∧ gyroChk 13 0 0 = 3 ∧ gyroChk (-13) 0 0 = -3 := by decide
theorem witness_GyroRegistersAgreeAfterDecode :
    (st .collecting 6 .gyro).AwaitsTerminator ∧ (st .collecting 6 .gyro).mode ≠ .euler ∧
    ∃ t, exec (.byte 0x0A) (st .collecting 6 .gyro) = .next t := ⟨⟨rfl, by decide⟩, by decide, _, rfl⟩
theorem witness_DecodeReadsOnlyThePayload :
    ∀ i, i < payloadLen .gyro → Memory.read [(0, 1#8), (6, 2#8)] i = Memory.read [(0, 1#8)] i := by decide
theorem witness_SecondSetmodeDecides : ∃ t, exec (.setmode 2) (st .collecting 3 .all) = .next t := ⟨_, rfl⟩
theorem witness_AccessorFrame :
    (∃ t, exec .rdall (st .collecting 3 .all) = .next t) ∧ (∃ t, exec .rdgyro (st .collecting 3 .all) = .next t) ∧
    (∃ t, exec .rdeuler (st .collecting 3 .all) = .next t) ∧
    (∃ t, exec (.qnew 0) (st .collecting 3 .all) = .next t) ∧ ∃ t, exec .age (st .collecting 3 .all) = .next t :=
  ⟨⟨_, rfl⟩, ⟨_, rfl⟩, ⟨_, rfl⟩, ⟨_, rfl⟩, _, rfl⟩
/-- A state about to complete a good packet, one about to complete a bad one, and one that is neither. -/
theorem witness_AtGoodPacket :
    ∃ s t : State, s.AtGoodPacket ∧ step s = .next t :=
  ⟨{ st .collecting 6 .gyro with port := [.op 0x00A#11 5] }, _, ⟨⟨rfl, by decide⟩, 5, [], rfl⟩, rfl⟩
theorem witness_AtBadPacket :
    ∃ s t : State, s.AtBadPacket ∧ step s = .next t :=
  ⟨{ st .collecting 6 .gyro with port := [.op 0x00B#11 5] }, _, ⟨⟨rfl, by decide⟩, 0x0B, by decide, 5, [], rfl⟩, rfl⟩
theorem witness_neither :
    ∃ s t : State, ¬ s.AtReset ∧ ¬ s.AtGoodPacket ∧ ¬ s.AtBadPacket ∧ step s = .next t := by
  refine ⟨st .collecting 6 .gyro, _, ?_, ?_, ?_, rfl⟩
  · rintro ⟨d, rest, h⟩; cases h
  · rintro ⟨_, now, rest, h⟩; cases h
  · rintro ⟨_, b, _, now, rest, h⟩; cases h
theorem witness_NewDataSetAndClearedOnlyAsListed :
    (∃ s t : State, s.newData = true ∧ step s = .next t ∧ t.newData = false ∧ s.AtWord 0x301#11) ∧
    ∃ s t : State, s.newData = false ∧ step s = .next t ∧ t.newData = true :=
  ⟨⟨{ st .collecting 6 .gyro with newData := true, port := [.op 0x301#11 5] }, _, rfl, rfl, rfl, 5, [], rfl⟩,
   { st .collecting 6 .gyro with port := [.op 0x00A#11 5] }, _, rfl, rfl, rfl⟩
theorem witness_OnlySetmodeAndResetWriteMode :
    ∃ s t : State, step s = .next t ∧ t.mode ≠ s.mode :=
  ⟨{ st .collecting 6 .gyro with port := [.op 0x102#11 5] }, _, rfl, by decide⟩
theorem witness_DesyncIsSilent : errorMet (.byte 0) (st (.seekByte 3) 0 .all) = some .desync := by decide
theorem witness_BadPacketErrorIsCountedAndFlagged : errorMet (.byte 0) (st .collecting 30 .all) = some .badpkt := by decide
theorem witness_BadModeIsCoerced : errorMet (.setmode 3) (st .collecting 30 .all) = some .badmode ∧
    errorMet (.setmode 2) (st .collecting 30 .all) = none := by decide
theorem witness_OverrunNeverMet : (st .collecting 29 .all).storeIndex = some 29 ∧
    (st .collecting 30 .all).storeIndex = none ∧ (st .collecting 29 .all).buf.wf = true ∧
    (∃ t, exec (.byte 7) (st .collecting 29 .all) = .next t ∧ (st .collecting 29 .all).storeIndex ≠ some 28) ∧
    ∃ t, exec (.setmode 1) (st .collecting 29 .all) = .next t ∧ ∀ b, Instr.setmode 1 ≠ .byte b :=
  ⟨rfl, rfl, rfl, ⟨_, rfl, by decide⟩, _, rfl, fun _ h => Instr.noConfusion h⟩
theorem witness_Inv (fs : FramerState) (mode : DataMode) : (st fs 0 mode).Inv :=
  ⟨rfl, fun _ => rfl, Nat.zero_le _⟩
theorem witness_EveryStepKeepsInvariant :
    ∃ s t : State, s.Inv ∧ step s = .next t ∧ t.fill = 1 :=
  ⟨{ st .collecting 0 .gyro with port := [.op 0x00A#11 5] }, _, ⟨rfl, fun _ => rfl, Nat.zero_le _⟩, rfl, rfl⟩
theorem witness_ReachableStatesMeetInvariant : Reachable { State.reset with port := [.op 0x101#11 0] } := .reset _
theorem witness_StaleBytesAreUnobservable :
    ∃ s s' t t' : State, s.Inv ∧ s'.Inv ∧ s ≠ s' ∧ SameButStale s s' ∧ step s = .next t ∧ step s' = .next t' :=
  ⟨{ st .collecting 0 .gyro with port := [.op 0x00A#11 5] },
   { st .collecting 0 .gyro with port := [.op 0x00A#11 5], buf := [(7, 9#8)] }, _, _,
   ⟨rfl, fun _ => rfl, Nat.zero_le _⟩, ⟨rfl, fun _ => rfl, Nat.zero_le _⟩, by decide,
   ⟨rfl, fun _ i hi => absurd hi (Nat.not_lt_zero i)⟩, rfl, rfl⟩
/-- A state before a whole GYRO frame with the given terminator. -/
def Sys2Proof.Tests.beforeFrame (t : Byte) : State :=
  { st (.seekByte 0) 0 .gyro with
    port := presentBytes (atTime 9 (cfg.magic.toList ++ [1, 0, 0xFF, 0, 0, 0]) ++ [(t, 1500)]) ++ [] }
theorem witness_GoodFrameIsDecoded :
    (beforeFrame 0x0A).Inv ∧ (beforeFrame 0x0A).fs = .seekByte 0 ∧
    [1#8, 0, 0xFF, 0, 0, 0].length = payloadLen (beforeFrame 0x0A).mode ∧
    (atTime 9 (cfg.magic.toList ++ [1#8, 0, 0xFF, 0, 0, 0])).map Prod.fst =
      (beforeFrame 0x0A).cfg.magic.toList ++ [1, 0, 0xFF, 0, 0, 0] ∧
    (beforeFrame 0x0A).port =
      presentBytes (atTime 9 (cfg.magic.toList ++ [1#8, 0, 0xFF, 0, 0, 0]) ++ [(0x0A#8, 1500)]) ++ [] :=
  ⟨⟨rfl, fun _ => rfl, Nat.zero_le _⟩, rfl, rfl, rfl, rfl⟩
theorem witness_BadFrameIsRejected :
    (beforeFrame 0x0D).Inv ∧ (beforeFrame 0x0D).fs = .seekByte 0 ∧
    [1#8, 0, 0xFF, 0, 0, 0].length = payloadLen (beforeFrame 0x0D).mode ∧
    (atTime 9 (cfg.magic.toList ++ [1#8, 0, 0xFF, 0, 0, 0])).map Prod.fst =
      (beforeFrame 0x0D).cfg.magic.toList ++ [1, 0, 0xFF, 0, 0, 0] ∧ 0x0D#8 ≠ 0x0A#8 ∧
    (beforeFrame 0x0D).port =
      presentBytes (atTime 9 (cfg.magic.toList ++ [1#8, 0, 0xFF, 0, 0, 0]) ++ [(0x0D#8, 1500)]) ++ [] :=
  ⟨⟨rfl, fun _ => rfl, Nat.zero_le _⟩, rfl, rfl, rfl, by decide, rfl⟩
theorem witness_NoEventWithoutWholeFrame :
    (beforeFrame 0x0A).Inv ∧ (beforeFrame 0x0A).fs = .seekByte 0 ∧
    10 < payloadLen (beforeFrame 0x0A).mode + 5 ∧
    10 ≤ (atTime 9 (cfg.magic.toList ++ [1#8, 0, 0xFF, 0, 0, 0]) ++ [(0x0A#8, 1500)]).length ∧
    (beforeFrame 0x0A).port =
      presentBytes (atTime 9 (cfg.magic.toList ++ [1#8, 0, 0xFF, 0, 0, 0]) ++ [(0x0A#8, 1500)]) ++ [] :=
  ⟨⟨rfl, fun _ => rfl, Nat.zero_le _⟩, rfl, by decide, by decide, rfl⟩
theorem witness_PollStopsAtFirstEvent :
    sessionD.rx = (0x0D#8, 50#32) :: [(0xA5#8, 51#32)] ∧ { sessionD with rx := [] }.rx = [] ∧
    ({ sessionD with rx := [] }.poll true).1 = false := by decide
theorem witness_SplitPollsCompose :
    ({ sessionD with block := st (.seekByte 0) 0 .gyro, rx := [(0xA5, 50)] }.poll true).1 = false := by decide
theorem witness_BadPacketRequestsOneFrame :
    (sessionD.poll true).1 = true ∧ (sessionD.poll true).2.block.lastGood = false ∧
    sessionD.link.continuous = false ∧ (sessionD.poll false).1 = true := by decide
theorem witness_BaudRateChangeOrder : table.identifier 9600 = some 2 ∧ table.identifier 2400 = some 0 ∧
    table.identifier 115200 = some 8 ∧ table.identifier 9601 = none ∧ table.identifier 2399 = none ∧
    table.identifier 115201 = none := by decide
theorem witness_ConfigurationLeavesBlockAlone : sessionD.link.isOpen = true := rfl
theorem witness_SetDataModeAlwaysClearsFraming :
    modeOf sessionD.block.cfg 1 = sessionD.block.mode ∧ modeOf sessionD.block.cfg 3 ≠ sessionD.block.mode := by decide
end

section
/-! PROOFS. What the operations leave of the buffer (10_state.md R29). -/

namespace Sys2Proof.Machine

/-- The next state of an operation is the only one `exec` answers. -/
theorem exec_eq_next_iff {i : Instr} {s t : State} : exec i s = .next t ↔ t = Instr.next i s := by
  rw [exec_eq_next, Host.Outcome.next.injEq, eq_comm]

/-- R114: below the payload length a byte in `Collecting` is stored. -/
theorem State.consumeByte_of_payload {s : State} (b : Byte) (hfs : s.fs = .collecting)
    (hfill : s.fill.toNat < payloadLen s.mode) : s.consumeByte b = (s.storePayload b).returns (.evt false) := by
  simp only [State.consumeByte, State.collectStep, hfs, if_pos hfill]

/-- R115, R116: at the terminator position a byte completes a packet, good or bad. -/
theorem State.consumeByte_of_awaitsTerminator {s : State} (b : Byte) (h : s.AwaitsTerminator) :
    s.consumeByte b = if b = termByte then s.goodPacket else s.badPacket := by
  obtain ⟨hfs, hfill⟩ := h
  simp only [State.consumeByte, State.collectStep, hfs, if_neg (Nat.not_lt.mpr hfill)]

/-- R113: BYTE stores in `Collecting` below the payload length, at the fill count. -/
theorem State.storeIndex_eq_some {s : State} {n : Nat} :
    s.storeIndex = some n ↔ s.fs = .collecting ∧ s.fill.toNat < payloadLen s.mode ∧ s.fill.toNat = n := by
  unfold State.storeIndex
  cases s.fs <;> simp

@[simp] theorem State.goodPacket_fill (s : State) : s.goodPacket.fill = 0 := rfl
@[simp] theorem State.goodPacket_buf (s : State) : s.goodPacket.buf = s.buf := rfl
@[simp] theorem State.badPacket_fill (s : State) : s.badPacket.fill = 0 := rfl
@[simp] theorem State.badPacket_buf (s : State) : s.badPacket.buf = s.buf := rfl

/-- R29: a packet event zeroes the fill count and leaves the buffer. -/
theorem State.consumeByte_packetEvent {s : State} (b : Byte) (h : s.AwaitsTerminator) :
    (s.consumeByte b).fill = 0 ∧ (s.consumeByte b).buf = s.buf := by
  rw [State.consumeByte_of_awaitsTerminator b h]
  split <;> simp

/-- The one byte BYTE may store lies just below the fill count it leaves, so the bytes from there on are stale ones
it has not touched. -/
theorem State.consumeByte_read_of_fill_le {s : State} {b : Byte} {a : Nat} (hwf : s.buf.wf = true)
    (ha : (s.consumeByte b).fill.toNat ≤ a) : (s.consumeByte b).buf.read a = s.buf.read a := by
  cases hi : s.storeIndex with
  | none => rw [State.consumeByte_buf, hi]
  | some n =>
    obtain ⟨hfs, hfill, -⟩ := State.storeIndex_eq_some.mp hi
    rw [State.consumeByte_of_payload b hfs hfill] at ha ⊢
    rw [State.returns_fill, State.storePayload_fill, fill_succ_toNat hfill] at ha
    exact Memory.read_write_other b hwf (Nat.ne_of_gt ha)

/-- Only BYTE writes the buffer (R65). -/
theorem Instr.next_buf_of_ne_byte {i : Instr} (s : State) (h : ∀ b, i ≠ .byte b) :
    (Instr.next i s).buf = s.buf := by
  cases i with
  | byte b => exact absurd rfl (h b)
  | qnew c => cases hc : clearRequested c <;> simp [Instr.next, hc]
  | setmode _ | rdall | rdgyro | rdeuler | age => rfl

/-- R29: every operation keeps the bytes at and above the fill count it leaves. -/
theorem Instr.next_read_of_fill_le {i : Instr} {s : State} {a : Nat} (hwf : s.buf.wf = true)
    (ha : (Instr.next i s).fill.toNat ≤ a) : (Instr.next i s).buf.read a = s.buf.read a := by
  by_cases hbyte : ∃ b, i = .byte b
  · obtain ⟨b, rfl⟩ := hbyte
    exact State.consumeByte_read_of_fill_le hwf ha
  · rw [Instr.next_buf_of_ne_byte s (not_exists.mp hbyte)]

/-- Settles O18: no operation but BYTE writes the buffer, and BYTE's one store lies below the fill count it leaves. -/
theorem bufferIsNeverCleared : Obligations.BufferIsNeverCleared := by
  unfold Obligations.BufferIsNeverCleared
  refine ⟨fun i s t hwf hexec a ha => ?_, fun s t b hterm hexec => ?_, fun s t m hexec => ?_⟩
    <;> obtain rfl := exec_eq_next_iff.mp hexec
  · exact Instr.next_read_of_fill_le hwf ha
  · exact State.consumeByte_packetEvent b hterm
  · exact ⟨rfl, rfl⟩

end Sys2Proof.Machine
end

section
/-! PROOFS. The value of a two- and a four-byte read (20_memory.md R61). -/

namespace Sys2Proof.Machine

/-- One step of the shift-and-or loop from an accumulator of known value, so that the steps chain. -/
theorem toNat_shiftOr_of_toNat_eq {n x : Nat} {v : BitVec n} (b : Byte) (hv : v.toNat = x)
    (h : x * 2 ^ 8 + b.toNat < 2 ^ n) : (shiftOr v b).toNat = x * 2 ^ 8 + b.toNat := by
  subst hv
  exact toNat_shiftOr v b h

/-- R61 at width 2: the second step of the loop shifts no bit out of the 16. -/
theorem Memory.toNat_read2 (m : Memory) (off : Nat) :
    (m.read2 off).toNat = (m.read off).toNat * 2 ^ 8 + (m.read (off + 1)).toNat := by
  have h0 := (m.read off).isLt
  have h1 := (m.read (off + 1)).isLt
  have v1 := toNat_shiftOr_of_toNat_eq (v := (0 : Half)) (x := 0) (m.read off) rfl (by omega)
  have v2 := toNat_shiftOr_of_toNat_eq (m.read (off + 1)) v1 (by omega)
  rw [Memory.read2, v2]
  omega

/-- R61 at width 4: after `k` steps of the loop the value is below `2 ^ (8 * k)`, so no bit is shifted out of the 32. -/
theorem Memory.toNat_read4 (m : Memory) (off : Nat) :
    (m.read4 off).toNat = (m.read off).toNat * 2 ^ 24 + (m.read (off + 1)).toNat * 2 ^ 16 +
      (m.read (off + 2)).toNat * 2 ^ 8 + (m.read (off + 3)).toNat := by
  have h0 := (m.read off).isLt
  have h1 := (m.read (off + 1)).isLt
  have h2 := (m.read (off + 2)).isLt
  have h3 := (m.read (off + 3)).isLt
  have v1 := toNat_shiftOr_of_toNat_eq (v := (0 : Word)) (x := 0) (m.read off) rfl (by omega)
  have v2 := toNat_shiftOr_of_toNat_eq (m.read (off + 1)) v1 (by omega)
  have v3 := toNat_shiftOr_of_toNat_eq (m.read (off + 2)) v2 (by omega)
  have v4 := toNat_shiftOr_of_toNat_eq (m.read (off + 3)) v3 (by omega)
  rw [Memory.read4, v4]
  omega

/-- Settles O20: each step of the loop multiplies by 256 and adds one unsigned byte. -/
theorem memReadIsBigEndian : Obligations.MemReadIsBigEndian := by
  unfold Obligations.MemReadIsBigEndian
  exact fun m off => ⟨m.toNat_read2 off, m.toNat_read4 off⟩

end Sys2Proof.Machine
end

section
/-! PROOFS. What one BYTE answers (40_framer.md R111 to R118). -/

namespace Sys2Proof.Machine

theorem exec_byte (b : Byte) (s : State) : exec (.byte b) s = .next (s.consumeByte b) := rfl

/-- R111: the byte the framer waits for takes it to the next position. -/
theorem State.consumeByte_of_match {s : State} {k : Fin 4} {b : Byte} (hfs : s.fs = .seekByte k)
    (hb : b = s.cfg.magic[k]) : s.consumeByte b = (s.goto (nextSeek k)).returns (.evt false) := by
  simp only [State.consumeByte, State.seekStep, hfs, if_pos hb]

/-- R112: any other byte restarts the search. -/
theorem State.consumeByte_of_mismatch {s : State} {k : Fin 4} {b : Byte} (hfs : s.fs = .seekByte k)
    (hb : b ≠ s.cfg.magic[k]) : s.consumeByte b = (s.goto (.seekByte 0)).returns (.evt false) := by
  simp only [State.consumeByte, State.seekStep, hfs, if_neg hb]

@[simp] theorem State.goodPacket_res (s : State) : s.goodPacket.res = .evt true := rfl
@[simp] theorem State.goodPacket_lastGood (s : State) : s.goodPacket.lastGood = true := rfl
@[simp] theorem State.badPacket_res (s : State) : s.badPacket.res = .evt true := rfl
@[simp] theorem State.badPacket_lastGood (s : State) : s.badPacket.lastGood = false := rfl

/-- R118: both kinds of packet answer 1; the flag records whether the terminator was right. -/
theorem State.consumeByte_res_lastGood_of_awaitsTerminator {s : State} (b : Byte) (h : s.AwaitsTerminator) :
    (s.consumeByte b).res = .evt true ∧ (s.consumeByte b).lastGood = decide (b = termByte) := by
  rw [State.consumeByte_of_awaitsTerminator b h]
  by_cases hb : b = termByte <;> simp [hb]

/-- R111, R112, R114: with no packet event BYTE answers 0 and leaves the flag. -/
theorem State.consumeByte_res_lastGood_of_not_awaitsTerminator {s : State} (b : Byte) (h : ¬ s.AwaitsTerminator) :
    (s.consumeByte b).res = .evt false ∧ (s.consumeByte b).lastGood = s.lastGood := by
  rcases s.consumeByte_cases b with
    ⟨k, -, -, hnext⟩ | ⟨k, -, -, hnext⟩ | ⟨-, -, hnext⟩ | ⟨hfs, hfill, -⟩ | ⟨hfs, hfill, -⟩
  · simp [hnext]
  · simp [hnext]
  · simp [hnext]
  · exact absurd ⟨hfs, hfill⟩ h
  · exact absurd ⟨hfs, hfill⟩ h

/-- Settles O13: the byte goes to the fill count, which is below the payload length and so does not wrap; the read-back
is the buffer's own law. -/
theorem payloadByteIsStored : Obligations.PayloadByteIsStored := by
  unfold Obligations.PayloadByteIsStored
  intro s b hfs hfill
  refine ⟨?_, fill_succ_toNat hfill, fun hwf =>
    ⟨Memory.read_write_same b hwf, fun i hi => Memory.read_write_other b hwf hi⟩⟩
  rw [exec_byte, State.consumeByte_of_payload b hfs hfill]
  rfl

/-- Settles O16: the result tells whether the byte stood at the terminator position, the flag whether it was `0x0A`. -/
theorem eventResultDoesNotTellGoodFromBad : Obligations.EventResultDoesNotTellGoodFromBad := by
  unfold Obligations.EventResultDoesNotTellGoodFromBad
  intro s t b hexec
  obtain rfl := exec_eq_next_iff.mp hexec
  exact ⟨State.consumeByte_res_lastGood_of_awaitsTerminator b,
    State.consumeByte_res_lastGood_of_not_awaitsTerminator b⟩

/-- Settles O11: `nextSeek` takes the four positions where R111 says. -/
theorem seekMatchAdvances : Obligations.SeekMatchAdvances := by
  unfold Obligations.SeekMatchAdvances
  intro s k b hfs hb
  rw [exec_byte, State.consumeByte_of_match hfs hb]
  match k with
  | 0 | 1 | 2 | 3 => rfl

/-- Settles O12: only the position and the result change, whatever the mismatching byte is. -/
theorem seekMismatchRestarts : Obligations.SeekMismatchRestarts := by
  unfold Obligations.SeekMismatchRestarts
  intro s k b hfs hb
  rw [exec_byte, State.consumeByte_of_mismatch hfs hb]
  rfl

end Sys2Proof.Machine
end

section
/-! PROOFS. The value of a narrow field (41_decoder.md R132). -/

namespace Sys2Proof.Machine

/-- R14: a word whose top bit is clear is its unsigned value, any other lies `2 ^ 16` below it. -/
theorem signed16_eq_ite_toNat (v : Half) :
    signed16 v = if (v.toNat : Int) < 32768 then (v.toNat : Int) else v.toNat - 65536 := by
  rw [signed16, BitVec.toInt_eq_toNat_cond]
  have hcond : 2 * v.toNat < 2 ^ 16 ↔ (v.toNat : Int) < 32768 := by omega
  simp only [hcond]
  rfl

/-- Settles O22: the word's unsigned value is the one R61 gives; the range is that of every narrow value. -/
theorem narrowValueIsSigned : Obligations.NarrowValueIsSigned := by
  unfold Obligations.NarrowValueIsSigned
  intro m off u
  have hu : ((m.read2 off).toNat : Int) = u := by
    rw [m.toNat_read2 off]
    push_cast
    rfl
  refine ⟨?_, narrow_range m off⟩
  rw [narrow, signed16_eq_ite_toNat, hu]

end Sys2Proof.Machine
end

section
/-! PROOFS. What QNEW answers (42_control_and_access.md R166). -/

namespace Sys2Proof.Machine

@[simp] theorem clearRequested_eq_true_iff {c : BitVec 1} : clearRequested c = true ↔ c = 1#1 := beq_iff_eq

/-- R166: with its operand set QNEW clears the flag it reports. -/
theorem Instr.next_qnew_of_clear {c : BitVec 1} (s : State) (h : c = 1#1) :
    Instr.next (.qnew c) s = s.clearNewData.returns (.flag s.newData) := by
  rw [Instr.next, if_pos (clearRequested_eq_true_iff.mpr h)]

/-- R166: with its operand clear QNEW only reports the flag. -/
theorem Instr.next_qnew_of_keep {c : BitVec 1} (s : State) (h : c ≠ 1#1) :
    Instr.next (.qnew c) s = s.returns (.flag s.newData) := by
  rw [Instr.next, if_neg (mt clearRequested_eq_true_iff.mp h)]

/-- Settles O37: either way the result is the flag of the state QNEW starts from, so clearing does not show in it. -/
theorem qnewReportsThenClears : Obligations.QnewReportsThenClears := by
  unfold Obligations.QnewReportsThenClears
  intro s c
  rw [exec_eq_next]
  by_cases hc : c = 1#1
  · rw [Instr.next_qnew_of_clear s hc, if_pos hc]
    rfl
  · rw [Instr.next_qnew_of_keep s hc, if_neg hc]
    rfl

end Sys2Proof.Machine
end

section
/-! PROOFS. How far a poll consumes the waiting bytes (43_host_environment.md R184). -/

namespace Sys2Proof.Machine

/-- R184: a drain that met no packet event has left no byte. -/
theorem drainBytes_rest_of_no_event {xs : List (Byte × Word)} {s : State} (h : (drainBytes xs s).1 = false) :
    (drainBytes xs s).2.1 = [] := by
  induction xs generalizing s with
  | nil => rfl
  | cons x rest ih =>
    obtain ⟨b, now⟩ := x
    rw [drainBytes_cons] at h ⊢
    split at h
    next => cases h
    next hev =>
      rw [if_neg hev]
      exact ih h

theorem Session.poll_true (h : Session) :
    h.poll true = ((drainBytes h.rx h.block).1,
      { h with rx := (drainBytes h.rx h.block).2.1, block := (drainBytes h.rx h.block).2.2 }) := rfl

/-- R184: with no byte waiting either poll answers false and leaves the session as it is. -/
theorem Session.poll_of_rx_nil {h : Session} (hrx : h.rx = []) (d : Bool) : h.poll d = (false, h) := by
  cases d with
  | false => simp only [Session.poll, hrx, Bool.false_eq_true, if_false]
  | true => rw [Session.poll_true, hrx, drainBytes_nil, ← hrx]

/-- R184: `poll(false)` performs BYTE with the oldest byte and answers whether it reported an event. -/
theorem Session.poll_false_of_rx_cons {h : Session} {b : Byte} {now : Word} {rest : List (Byte × Word)}
    (hrx : h.rx = (b, now) :: rest) :
    h.poll false = ((performAt (.byte b) now h.block).reportedEvent,
      { h with rx := rest, block := performAt (.byte b) now h.block }) := by
  simp only [Session.poll, hrx, Bool.false_eq_true, if_false]

/-- R184: `poll(true)` is `poll(false)` and, where that met no event, `poll(true)` again. -/
theorem Session.poll_true_of_rx_cons {h : Session} {b : Byte} {now : Word} {rest : List (Byte × Word)}
    (hrx : h.rx = (b, now) :: rest) :
    h.poll true = if (h.poll false).1 then h.poll false else (h.poll false).2.poll true := by
  rw [Session.poll_false_of_rx_cons hrx, Session.poll_true, hrx, drainBytes_cons]
  split
  next hev => rw [hev]
  next => rfl

/-- Settles O55: one BYTE of the drain is a `poll(false)`, and a drain ends only at an event or on an empty transport. -/
theorem pollStopsAtFirstEvent : Obligations.PollStopsAtFirstEvent := by
  unfold Obligations.PollStopsAtFirstEvent
  refine ⟨fun h hrx d => Session.poll_of_rx_nil hrx d, fun h b now rest hrx => ⟨?_, ?_, ?_⟩, fun h hno => ?_⟩
  · rw [Session.poll_false_of_rx_cons hrx]
  · rw [Session.poll_false_of_rx_cons hrx]
  · exact Session.poll_true_of_rx_cons hrx
  · exact drainBytes_rest_of_no_event hno

end Sys2Proof.Machine
end

section
/-! PROOFS. The desync error (60_exceptions.md R211). -/

namespace Sys2Proof.Machine

/-- R113: while seeking BYTE stores nothing. -/
theorem State.storeIndex_of_seekByte {s : State} {k : Fin 4} (hfs : s.fs = .seekByte k) : s.storeIndex = none := by
  simp only [State.storeIndex, hfs]

/-- R211: while seeking the comparison with the expected magic byte alone decides the error. -/
theorem byteError_of_seekByte {s : State} {k : Fin 4} (b : Byte) (hfs : s.fs = .seekByte k) :
    byteError b s = if b = s.cfg.magic[k] then none else some .desync := by
  simp only [byteError, State.storeIndex_of_seekByte hfs, hfs]

/-- R212, R214: in `Collecting` a stored byte can only overrun and a terminator can only be bad. -/
theorem byteError_ne_desync_of_collecting {s : State} (b : Byte) (hfs : s.fs = .collecting) :
    byteError b s ≠ some .desync := by
  unfold byteError
  cases s.storeIndex with
  | some i => by_cases hi : i < bufCap <;> simp [hi]
  | none => by_cases hb : b = termByte <;> simp [hfs, hb]

/-- R211: BYTE meets `E_DESYNC` exactly while seeking, with a byte other than the one expected there. -/
theorem byteError_eq_desync_iff {b : Byte} {s : State} :
    byteError b s = some .desync ↔ ∃ k : Fin 4, s.fs = .seekByte k ∧ b ≠ s.cfg.magic[k] := by
  cases hfs : s.fs with
  | seekByte k =>
    rw [byteError_of_seekByte b hfs]
    by_cases hb : b = s.cfg.magic[k] <;> simp [hb]
  | collecting => simp [byteError_ne_desync_of_collecting b hfs]

/-- R211: only BYTE meets `E_DESYNC`; SETMODE has an error class of its own and the accessors have none. -/
theorem errorMet_eq_desync_iff {i : Instr} {s : State} :
    errorMet i s = some .desync ↔
      ∃ (b : Byte) (k : Fin 4), i = .byte b ∧ s.fs = .seekByte k ∧ b ≠ s.cfg.magic[k] := by
  cases i with
  | byte b => simp [errorMet, byteError_eq_desync_iff]
  | setmode m => by_cases hm : 2 < m.toNat <;> simp [errorMet, hm]
  | rdall | rdgyro | rdeuler | qnew _ | age => simp [errorMet]

/-- Settles O44: the error is met exactly where R112 restarts the search, and neither `fs` nor `res` is a status output. -/
theorem desyncIsSilent : Obligations.DesyncIsSilent := by
  unfold Obligations.DesyncIsSilent
  refine ⟨fun i s => errorMet_eq_desync_iff, fun i s h => ?_⟩
  obtain ⟨b, k, rfl, hfs, hb⟩ := errorMet_eq_desync_iff.mp h
  exact ⟨seekMismatchRestarts s k b hfs hb, rfl⟩

end Sys2Proof.Machine
end

section
/-! PROOFS. Encoding and decoding an operation word (30_encoding.md R80, R81, R91). -/

namespace Sys2Proof

@[simp] theorem opField_packOp (op : BitVec 3) (data : Byte) : opField (packOp op data) = op :=
  BitVec.extractLsb'_append_eq_left

@[simp] theorem dataField_packOp (op : BitVec 3) (data : Byte) : dataField (packOp op data) = data :=
  BitVec.extractLsb'_append_eq_right

/-- R80: the two fields are the whole word. -/
theorem packOp_opField_dataField (w : OpWord) : packOp (opField w) (dataField w) = w :=
  (BitVec.extractLsb'_append_extractLsb'_eq_extractLsb' rfl).trans BitVec.extractLsb'_eq_self

/-- R81: the operand of QNEW splits into the seven zero bits and the clear bit. -/
theorem append_clearBit {data : Byte} (h : data.extractLsb' 1 7 = 0) : 0#7 ++ data.extractLsb' 0 1 = data := by
  have hsplit : data.extractLsb' 1 7 ++ data.extractLsb' 0 1 = data :=
    (BitVec.extractLsb'_append_extractLsb'_eq_extractLsb' rfl).trans BitVec.extractLsb'_eq_self
  rwa [h] at hsplit

@[simp] theorem decode_packOp_byte (data : Byte) : decode (packOp 0 data) = .ok (.byte data) := by simp [decode]
@[simp] theorem decode_packOp_setmode (data : Byte) : decode (packOp 1 data) = .ok (.setmode data) := by
  simp [decode]
@[simp] theorem decode_packOp_read (data : Byte) : decode (packOp 2 data) = decodeRead data := by simp [decode]
@[simp] theorem decode_packOp_query (data : Byte) : decode (packOp 3 data) = decodeQuery data := by simp [decode]
@[simp] theorem decode_packOp_age (data : Byte) : decode (packOp 4 data) = decodeAge data := by simp [decode]

/-- R91: the opcodes 5, 6 and 7 have no row. -/
theorem decode_packOp_of_five_le {op : BitVec 3} (data : Byte) (h : 5 ≤ op.toNat) :
    decode (packOp op data) = .error .reservedOpcode := by
  have : op.toNat < 8 := op.isLt
  obtain hop | hop | hop : op.toNat = 5 ∨ op.toNat = 6 ∨ op.toNat = 7 := by omega
  all_goals simp [decode, hop]

theorem bitVec3_cases (op : BitVec 3) : op = 0 ∨ op = 1 ∨ op = 2 ∨ op = 3 ∨ op = 4 ∨ 5 ≤ op.toNat := by
  revert op; decide

@[simp] theorem decodeQuery_append (c : BitVec 1) : decodeQuery (0#7 ++ c) = .ok (.qnew c) := by
  revert c; decide

theorem decode_encode (i : Instr) : decode (encode i) = .ok i := by
  cases i with
  | byte b => exact decode_packOp_byte b
  | setmode m => exact decode_packOp_setmode m
  | qnew c => exact (decode_packOp_query _).trans (decodeQuery_append c)
  | rdall | rdgyro | rdeuler | age => rfl

theorem encode_of_decodeRead {data : Byte} {i : Instr} (h : decodeRead data = .ok i) :
    encode i = packOp 2 data := by
  unfold decodeRead at h
  split_ifs at h with h0 h1 h2 <;> cases h <;> subst data <;> rfl

theorem encode_of_decodeQuery {data : Byte} {i : Instr} (h : decodeQuery data = .ok i) :
    encode i = packOp 3 data := by
  unfold decodeQuery at h
  split_ifs at h with hzero
  cases h
  rw [encode, append_clearBit hzero]

theorem encode_of_decodeAge {data : Byte} {i : Instr} (h : decodeAge data = .ok i) : encode i = packOp 4 data := by
  unfold decodeAge at h
  split_ifs at h with hzero
  cases h
  subst data
  rfl

/-- R81: an operation's word is the only word that decodes to it. -/
theorem decode_eq_ok_iff {w : OpWord} {i : Instr} : decode w = .ok i ↔ w = encode i := by
  refine ⟨fun h => ?_, fun h => h ▸ decode_encode i⟩
  rw [← packOp_opField_dataField w] at h ⊢
  rcases bitVec3_cases (opField w) with hop | hop | hop | hop | hop | hop
  · rw [hop, decode_packOp_byte] at h
    cases h
    rw [hop, encode]
  · rw [hop, decode_packOp_setmode] at h
    cases h
    rw [hop, encode]
  · rw [hop, decode_packOp_read] at h
    rw [hop, encode_of_decodeRead h]
  · rw [hop, decode_packOp_query] at h
    rw [hop, encode_of_decodeQuery h]
  · rw [hop, decode_packOp_age] at h
    rw [hop, encode_of_decodeAge h]
  · rw [decode_packOp_of_five_le _ hop] at h
    cases h

theorem encode_inj {i j : Instr} : encode i = encode j ↔ i = j := by
  rw [← decode_eq_ok_iff, decode_encode, Except.ok.injEq]

/-- Settles O1: the fields of a packed word are the ones packed, and every operand is read back from its field. -/
theorem decodeInvertsEncode : Obligations.DecodeInvertsEncode := by
  unfold Obligations.DecodeInvertsEncode
  exact fun i _ => decode_encode i

/-- Settles O2: only the word of an operation decodes to it. -/
theorem encodeInvertsDecode : Obligations.EncodeInvertsDecode := by
  unfold Obligations.EncodeInvertsDecode
  exact fun w i h => (decode_eq_ok_iff.mp h).symm

/-- R81: a row whose mask keeps the opcode field fixes it. -/
theorem opField_eq_of_and_eq {w mask pattern : OpWord} (hmask : opField mask = BitVec.allOnes 3)
    (h : w &&& mask = pattern) : opField w = opField pattern := by
  rw [← h, opField, opField, BitVec.extractLsb'_and, ← opField, ← opField, hmask, BitVec.and_allOnes]

/-- R81: the row of QNEW fixes the seven high bits of the operand. -/
theorem dataField_high_of_query_row {w : OpWord} (h : w &&& 0x7FE#11 = 0x300#11) :
    (dataField w).extractLsb' 1 7 = 0 := by
  have hbits : (w &&& 0x7FE#11).extractLsb' 1 7 = w.extractLsb' 1 7 := by
    rw [BitVec.extractLsb'_and]
    exact BitVec.and_allOnes
  rw [dataField, BitVec.extractLsb'_extractLsb'_of_le (by decide), ← hbits, h]
  rfl

/-- R81: the mask of a row without operand keeps the whole word. -/
theorem eq_of_and_fullMask {w pattern : OpWord} (h : w &&& 0x7FF#11 = pattern) : w = pattern :=
  BitVec.and_allOnes.symm.trans h

/-- R81: a word that a row covers is the word of the row's operation with some operand. -/
theorem exists_eq_encode_of_covers {r : OpRow} {w : OpWord} (hr : r ∈ opRows) (h : r.covers w = true) :
    ∃ i, w = encode i := by
  have hfields := packOp_opField_dataField w
  rw [OpRow.covers, beq_iff_eq] at h
  simp only [opRows, List.mem_cons, List.not_mem_nil, or_false] at hr
  rcases hr with rfl | rfl | rfl | rfl | rfl | rfl | rfl
  · rw [opField_eq_of_and_eq rfl h] at hfields
    exact ⟨.byte (dataField w), hfields.symm⟩
  · rw [opField_eq_of_and_eq rfl h] at hfields
    exact ⟨.setmode (dataField w), hfields.symm⟩
  · exact ⟨.rdall, eq_of_and_fullMask h⟩
  · exact ⟨.rdgyro, eq_of_and_fullMask h⟩
  · exact ⟨.rdeuler, eq_of_and_fullMask h⟩
  · rw [opField_eq_of_and_eq rfl h, ← append_clearBit (dataField_high_of_query_row h)] at hfields
    exact ⟨.qnew _, hfields.symm⟩
  · exact ⟨.age, eq_of_and_fullMask h⟩

/-- R81: exactly one row covers the word of an operation. -/
theorem length_filter_covers_encode (i : Instr) : (opRows.filter fun r => r.covers (encode i)).length = 1 := by
  have hrow : Laws.EncodingRow.Statement i := by
    cases i with
    | byte b => exact Laws.EncodingRow.byte b
    | setmode m => exact Laws.EncodingRow.setmode m
    | rdall => exact Laws.EncodingRow.rdall
    | rdgyro => exact Laws.EncodingRow.rdgyro
    | rdeuler => exact Laws.EncodingRow.rdeuler
    | qnew c => exact Laws.EncodingRow.qnew c
    | age => exact Laws.EncodingRow.age
  simpa using congrArg List.length hrow

theorem wordWellFormed_iff_exists_eq_encode {w : OpWord} : wordWellFormed w = true ↔ ∃ i, w = encode i := by
  rw [wordWellFormed, List.any_eq_true]
  constructor
  · rintro ⟨r, hr, hcovers⟩
    exact exists_eq_encode_of_covers hr hcovers
  · rintro ⟨i, rfl⟩
    obtain ⟨r, hr⟩ := List.exists_mem_of_length_pos (by rw [length_filter_covers_encode i]; exact Nat.one_pos)
    exact ⟨r, List.mem_filter.mp hr⟩

/-- Settles O3: the covered words and the decoded words are both the words of operations, and each of those has one
row; a word with a row that is not an operation's does not exist. -/
theorem decoderAcceptsExactlyTheOpcodeMap : Obligations.DecoderAcceptsExactlyTheOpcodeMap := by
  unfold Obligations.DecoderAcceptsExactlyTheOpcodeMap
  refine ⟨fun w => ?_, fun w => ?_⟩
  · simp only [decode_eq_ok_iff, wordWellFormed_iff_exists_eq_encode]
  · by_cases hw : ∃ i, w = encode i
    · obtain ⟨i, rfl⟩ := hw
      exact (length_filter_covers_encode i).le
    · have hnone : (opRows.filter fun r => r.covers w) = [] :=
        List.filter_eq_nil_iff.mpr fun r hr hcovers => hw (exists_eq_encode_of_covers hr hcovers)
      rw [hnone]
      exact Nat.zero_le 1

/-- Settles O4: each word is the one `encode` packs. -/
theorem writtenOutWordsDecode : Obligations.WrittenOutWordsDecode := by
  unfold Obligations.WrittenOutWordsDecode
  exact ⟨decode_encode (.byte 0xA5#8), decode_encode (.setmode 0x02#8), decode_encode .rdall, decode_encode .rdgyro,
    decode_encode .rdeuler, decode_encode (.qnew 1#1), decode_encode (.qnew 0#1), decode_encode .age⟩

/-- R91: the operand values of a read that select no frame type. -/
theorem decodeRead_of_three_le {data : Byte} (h : 3 ≤ data.toNat) : decodeRead data = .error .reservedReadSelector := by
  rw [decodeRead, if_neg, if_neg, if_neg] <;> (rintro rfl; exact absurd h (by decide))

/-- R91: an operand of QNEW above 1 has one of its seven high bits set. -/
theorem decodeQuery_of_two_le {data : Byte} (h : 2 ≤ data.toNat) : decodeQuery data = .error .reservedQueryOperand := by
  refine if_neg fun hzero => ?_
  have hle : (0#7 ++ data.extractLsb' 0 1).toNat ≤ 1 := by
    generalize data.extractLsb' 0 1 = c
    revert c
    decide
  rw [append_clearBit hzero] at hle
  omega

/-- R91: AGE has one operand value. -/
theorem decodeAge_of_one_le {data : Byte} (h : 1 ≤ data.toNat) : decodeAge data = .error .reservedAgeOperand := by
  refine if_neg ?_
  rintro rfl
  exact absurd h (by decide)

/-- R91: the words of its list are no operation. -/
theorem exists_decode_eq_error_of_reserved {op : BitVec 3} {data : Byte}
    (h : 5 ≤ op.toNat ∨ (op = 2#3 ∧ 3 ≤ data.toNat) ∨ (op = 3#3 ∧ 2 ≤ data.toNat) ∨ (op = 4#3 ∧ 1 ≤ data.toNat)) :
    ∃ e, decode (packOp op data) = .error e := by
  rcases h with hop | ⟨rfl, hdata⟩ | ⟨rfl, hdata⟩ | ⟨rfl, hdata⟩
  · exact ⟨_, decode_packOp_of_five_le data hop⟩
  · exact ⟨_, (decode_packOp_read data).trans (decodeRead_of_three_le hdata)⟩
  · exact ⟨_, (decode_packOp_query data).trans (decodeQuery_of_two_le hdata)⟩
  · exact ⟨_, (decode_packOp_age data).trans (decodeAge_of_one_le hdata)⟩

end Sys2Proof
end

section
/-! PROOFS. Which bytes a decode reads and which registers it writes (41_decoder.md R130, R136 to R139). -/

namespace Sys2Proof.Machine

/-- Settles O28: each decode unfolds to the reads at its layout's offsets; the checksum's `trem` is the truncated
remainder. -/
theorem decodeFollowsLayouts : Obligations.DecodeFollowsLayouts := by
  unfold Obligations.DecodeFollowsLayouts
  intro m f
  simp only [← trem_eq_tmod]
  exact ⟨rfl, rfl, rfl⟩

/-- R130, R139: every field of a layout lies below the payload length of its mode. -/
theorem decodePayload_congr {mode : DataMode} {m m' : Memory} (f : SensorFrame)
    (h : ∀ i, i < payloadLen mode → m.read i = m'.read i) : decodePayload mode m f = decodePayload mode m' f := by
  have hnarrow (off : Nat) (hoff : off + 2 ≤ payloadLen mode) : narrow m off = narrow m' off :=
    narrow_congr fun i hi => h i (hi.trans_le hoff)
  have hwide (off : Nat) (hoff : off + 4 ≤ payloadLen mode) : wide m off = wide m' off :=
    wide_congr fun i hi => h i (hi.trans_le hoff)
  cases mode with
  | all =>
    have hacc : wideTriple m layouts.allAcc = wideTriple m' layouts.allAcc := by
      simp only [wideTriple, layouts, Triple.map, hwide 0 (by decide), hwide 4 (by decide), hwide 8 (by decide)]
    have hmag : wideTriple m layouts.allMag = wideTriple m' layouts.allMag := by
      simp only [wideTriple, layouts, Triple.map, hwide 12 (by decide), hwide 16 (by decide), hwide 20 (by decide)]
    have hgyro : narrowTriple m layouts.allGyro = narrowTriple m' layouts.allGyro := by
      simp only [narrowTriple, layouts, Triple.map, hnarrow 24 (by decide), hnarrow 26 (by decide),
        hnarrow 28 (by decide)]
    simp only [decodePayload, decodeAll, hacc, hmag, hgyro]
  | gyro =>
    have hgyro : narrowTriple m layouts.gyro = narrowTriple m' layouts.gyro := by
      simp only [narrowTriple, layouts, Triple.map, hnarrow 0 (by decide), hnarrow 2 (by decide), hnarrow 4 (by decide)]
    simp only [decodePayload, decodeGyro, hgyro]
  | euler =>
    have heuler : wideTriple m layouts.euler = wideTriple m' layouts.euler := by
      simp only [wideTriple, layouts, Triple.map, hwide 0 (by decide), hwide 4 (by decide), hwide 8 (by decide)]
    simp only [decodePayload, decodeEuler, heuler]

/-- Settles O30: a field that lies below the payload length reads the same from buffers that agree there. -/
theorem decodeReadsOnlyThePayload : Obligations.DecodeReadsOnlyThePayload := by
  unfold Obligations.DecodeReadsOnlyThePayload
  exact fun mode m m' f h => decodePayload_congr f h

end Sys2Proof.Machine
end

section
/-! PROOFS. The invariant every step keeps (10_state.md R26, R28) and the stale bytes (R30). -/

namespace Sys2Proof.Machine

/-- A cleared fill count meets R26 and R28 in every framing state and mode. -/
theorem State.inv_of_fill_eq_zero {s : State} (hbuf : s.buf.wf = true) (hfill : s.fill = 0) : s.Inv :=
  ⟨hbuf, fun _ => hfill, by rw [State.FillBounded, hfill]; exact Nat.zero_le _⟩

/-- Of the fields of a state the invariant reads only these four. -/
theorem State.Inv.of_eq {s t : State} (h : s.Inv) (hbuf : t.buf = s.buf) (hfs : t.fs = s.fs) (hfill : t.fill = s.fill)
    (hmode : t.mode = s.mode) : t.Inv where
  bufCanonical := by rw [hbuf]; exact h.bufCanonical
  fillZero := by rw [State.FillZeroOutsideCollecting, hfs, hfill]; exact h.fillZero
  fillBounded := by rw [State.FillBounded, hfill, hmode]; exact h.fillBounded

/-- While seeking the fill count is 0 (R26). -/
theorem State.Inv.fill_eq_zero {s : State} {k : Fin 4} (h : s.Inv) (hfs : s.fs = .seekByte k) : s.fill = 0 :=
  h.fillZero (by simp [hfs])

theorem State.Inv.consumeByte {s : State} (h : s.Inv) (b : Byte) : (s.consumeByte b).Inv := by
  rcases s.consumeByte_cases b with
    ⟨k, hfs, -, hnext⟩ | ⟨k, hfs, -, hnext⟩ | ⟨hfs, hfill, hnext⟩ | ⟨-, -, -, hnext⟩ | ⟨-, -, -, hnext⟩
  all_goals rw [hnext]
  · exact State.inv_of_fill_eq_zero h.bufCanonical (h.fill_eq_zero hfs)
  · exact State.inv_of_fill_eq_zero h.bufCanonical (h.fill_eq_zero hfs)
  · refine ⟨Memory.wf_write b h.bufCanonical (hfill.trans_le (payloadLen_le_bufCap s.mode)), fun hne => absurd hfs hne,
      ?_⟩
    rw [State.FillBounded, State.returns_fill, State.storePayload_fill, fill_succ_toNat hfill]
    exact hfill
  · exact State.inv_of_fill_eq_zero h.bufCanonical rfl
  · exact State.inv_of_fill_eq_zero h.bufCanonical rfl

theorem State.Inv.next {s : State} (h : s.Inv) (i : Instr) : (Instr.next i s).Inv := by
  cases i with
  | byte b => exact h.consumeByte b
  | setmode m => exact State.inv_of_fill_eq_zero h.bufCanonical rfl
  | qnew c =>
    by_cases hc : c = 1#1
    · rw [Instr.next_qnew_of_clear s hc]
      exact h.of_eq rfl rfl rfl rfl
    · rw [Instr.next_qnew_of_keep s hc]
      exact h.of_eq rfl rfl rfl rfl
  | rdall | rdgyro | rdeuler | age => exact h.of_eq rfl rfl rfl rfl

theorem State.Inv.step {s t : State} (h : s.Inv) (hstep : Machine.step s = .next t) : t.Inv := by
  rcases step_cases hstep with
    ⟨-, rfl⟩ | ⟨d, rest, -, rfl⟩ | ⟨w, now, rest, e, -, -, rfl⟩ | ⟨w, now, rest, i, -, -, rfl⟩
  · exact h
  · exact State.inv_of_fill_eq_zero (Memory.wf_ofVector d.buf) rfl
  · exact h.of_eq rfl rfl rfl rfl
  · have htaken : ((s.takeInput rest).sampleClock now).Inv := h.of_eq rfl rfl rfl rfl
    exact htaken.next i

/-- Settles O48: a stored byte has its index below the payload length, and every other write of the fill count
clears it. -/
theorem everyStepKeepsInvariant : Obligations.EveryStepKeepsInvariant := by
  unfold Obligations.EveryStepKeepsInvariant
  exact fun s t h hstep => h.step hstep

theorem State.inv_reset : State.reset.Inv := State.inv_of_fill_eq_zero Memory.wf_nil rfl

/-- Settles O49: nothing is listed and nothing is collected. -/
theorem resetMeetsInvariant : Obligations.ResetMeetsInvariant := by
  unfold Obligations.ResetMeetsInvariant
  exact State.inv_reset

theorem Reachable.inv {s : State} (h : Reachable s) : s.Inv := by
  induction h with
  | reset ins => exact State.inv_reset.of_eq rfl rfl rfl rfl
  | step _ hstep ih => exact ih.step hstep
  | present ins _ ih => exact ih.of_eq rfl rfl rfl rfl

/-- Settles O50: the invariant holds at reset, and steps and new inputs keep it. -/
theorem reachableStatesMeetInvariant : Obligations.ReachableStatesMeetInvariant := by
  unfold Obligations.ReachableStatesMeetInvariant
  exact fun s h => ⟨h.inv.fillZero, h.inv.fillBounded⟩

/-! ### Stale bytes -/

/-- The state with another buffer. -/
def State.withBuf (s : State) (m : Memory) : State := { s with buf := m }

/-- Such states are one state and two buffers that agree on the live bytes. -/
theorem sameButStale_iff {s t : State} :
    SameButStale s t ↔ t = s.withBuf t.buf ∧ SameLiveBytes s t := by
  refine and_congr_left fun _ => ⟨fun h => ?_, fun h => ?_⟩
  · have hsame := congrArg (State.withBuf · t.buf) h
    exact hsame.symm
  · rw [h]
    rfl

/-- Outside `Collecting`, or with nothing collected, no byte of the buffer is live. -/
theorem sameButStale_withBuf {s : State} (m : Memory) (h : s.fs = .collecting → s.fill = 0) :
    SameButStale s (s.withBuf m) := by
  refine ⟨rfl, fun hfs i hi => ?_⟩
  rw [h hfs] at hi
  exact absurd hi (Nat.not_lt_zero i)

theorem SameButStale.refl (s : State) : SameButStale s s := ⟨rfl, fun _ _ _ => rfl⟩

/-- R30 for BYTE: a payload byte joins the live bytes of both states; at the terminator position every byte the decode
reads is live; every other byte leaves no live byte. -/
theorem SameButStale.consumeByte {s t : State} (h : SameButStale s t) (hs : s.Inv) (ht : t.Inv) (b : Byte) :
    SameButStale (s.consumeByte b) (t.consumeByte b) := by
  obtain ⟨ht', hlive⟩ := sameButStale_iff.mp h
  have hwf := ht.bufCanonical
  generalize t.buf = m at ht' hwf
  subst ht'
  rcases s.consumeByte_cases b with
    ⟨k, hfs, hb, hnext⟩ | ⟨k, hfs, hb, hnext⟩ | ⟨hfs, hfill, hnext⟩ | ⟨hfs, hfill, hb, hnext⟩ | ⟨hfs, hfill, hb, hnext⟩
  all_goals rw [hnext]
  · rw [State.consumeByte_of_match (s := s.withBuf m) hfs hb]
    exact sameButStale_withBuf m fun _ => hs.fill_eq_zero hfs
  · rw [State.consumeByte_of_mismatch (s := s.withBuf m) hfs hb]
    exact sameButStale_withBuf m fun _ => hs.fill_eq_zero hfs
  · rw [State.consumeByte_of_payload (s := s.withBuf m) b hfs hfill]
    refine ⟨rfl, fun _ i hi => ?_⟩
    rw [State.returns_fill, State.storePayload_fill, fill_succ_toNat hfill] at hi
    change (s.buf.write s.fill.toNat b).read i = (m.write s.fill.toNat b).read i
    rw [Memory.read_write b hs.bufCanonical, Memory.read_write b hwf]
    split
    next => rfl
    next hne => exact hlive hfs i (by omega)
  · rw [State.consumeByte_of_awaitsTerminator (s := s.withBuf m) b ⟨hfs, hfill⟩, if_pos hb]
    have hframe : decodePayload s.mode s.buf s.frame = decodePayload s.mode m s.frame :=
      decodePayload_congr _ fun i hi => hlive hfs i (hi.trans_le hfill)
    have hsame : (s.withBuf m).goodPacket = s.goodPacket.withBuf m := by
      simp only [State.goodPacket, hframe]
      rfl
    rw [hsame]
    exact sameButStale_withBuf m fun _ => rfl
  · rw [State.consumeByte_of_awaitsTerminator (s := s.withBuf m) b ⟨hfs, hfill⟩, if_neg hb]
    exact sameButStale_withBuf m fun _ => rfl

theorem SameButStale.next {s t : State} (h : SameButStale s t) (hs : s.Inv) (ht : t.Inv) (i : Instr) :
    SameButStale (Instr.next i s) (Instr.next i t) := by
  cases i with
  | byte b => exact h.consumeByte hs ht b
  | setmode m =>
    obtain ⟨ht', -⟩ := sameButStale_iff.mp h
    rw [ht']
    exact sameButStale_withBuf t.buf fun _ => rfl
  | qnew c =>
    obtain ⟨ht', hlive⟩ := sameButStale_iff.mp h
    rw [ht']
    by_cases hc : c = 1#1
    · rw [Instr.next_qnew_of_clear _ hc, Instr.next_qnew_of_clear _ hc]
      exact ⟨rfl, hlive⟩
    · rw [Instr.next_qnew_of_keep _ hc, Instr.next_qnew_of_keep _ hc]
      exact ⟨rfl, hlive⟩
  | rdall | rdgyro | rdeuler | age =>
    obtain ⟨ht', hlive⟩ := sameButStale_iff.mp h
    rw [ht']
    exact ⟨rfl, hlive⟩

/-- Taking an input leaves the framing state, the fill count and the buffer. -/
theorem SameButStale.takeInput {s t : State} (h : SameButStale s t) (rest : List Input) :
    SameButStale (s.takeInput rest) (t.takeInput rest) :=
  ⟨congrArg (State.takeInput · rest) h.1, h.2⟩

theorem SameButStale.sampleClock {s t : State} (h : SameButStale s t) (now : Word) :
    SameButStale (s.sampleClock now) (t.sampleClock now) :=
  ⟨congrArg (State.sampleClock · now) h.1, h.2⟩

theorem SameButStale.reservedWord {s t : State} (h : SameButStale s t) :
    SameButStale s.reservedWord t.reservedWord :=
  ⟨congrArg State.reservedWord h.1, h.2⟩

/-- RESET draws the whole buffer, so nothing of the old one is left. -/
theorem SameButStale.resetEvent {s t : State} (h : SameButStale s t) (d : ResetDraw) :
    SameButStale (s.resetEvent d) (t.resetEvent d) := by
  obtain ⟨ht', -⟩ := sameButStale_iff.mp h
  rw [ht']
  exact SameButStale.refl (s.resetEvent d)

theorem SameButStale.port_eq {s t : State} (h : SameButStale s t) : t.port = s.port :=
  (congrArg State.port h.1).symm

theorem SameButStale.res_eq {s t : State} (h : SameButStale s t) : s.res = t.res :=
  show (s.withBuf []).res = (t.withBuf []).res from congrArg State.res h.1

theorem SameButStale.status_eq {s t : State} (h : SameButStale s t) : s.status = t.status :=
  show (s.withBuf []).status = (t.withBuf []).status from congrArg State.status h.1

theorem SameButStale.step {s s' t t' : State} (h : SameButStale s s') (hs : s.Inv) (hs' : s'.Inv)
    (hstep : Machine.step s = .next t) (hstep' : Machine.step s' = .next t') : SameButStale t t' := by
  have hport := h.port_eq
  rcases step_cases hstep with
    ⟨hp, rfl⟩ | ⟨d, rest, hp, rfl⟩ | ⟨w, now, rest, e, hp, hd, rfl⟩ | ⟨w, now, rest, i, hp, hd, rfl⟩
  all_goals rw [hp] at hport
  · rw [step_of_idle hport] at hstep'
    cases hstep'
    exact h
  · rw [step_of_rst hport] at hstep'
    cases hstep'
    exact (h.takeInput rest).resetEvent d
  · rw [step_of_word hport, performWord_error hd] at hstep'
    cases hstep'
    exact ((h.takeInput rest).sampleClock now).reservedWord
  · rw [step_of_word hport, performWord_ok hd, exec_eq_next] at hstep'
    cases hstep'
    exact ((h.takeInput rest).sampleClock now).next (hs.of_eq rfl rfl rfl rfl) (hs'.of_eq rfl rfl rfl rfl) i

/-- Settles O51: the buffer is read by a good packet alone, and then every byte it reads is live; the result and the
status outputs are fields in which such states do not differ. -/
theorem staleBytesAreUnobservable : Obligations.StaleBytesAreUnobservable := by
  unfold Obligations.StaleBytesAreUnobservable
  intro s s' t t' hs hs' h hstep hstep'
  have hnext := h.step hs hs' hstep hstep'
  exact ⟨hnext, hnext.res_eq, hnext.status_eq⟩

end Sys2Proof.Machine
end

section
/-! PROOFS. What one step answers, and RESET (30_encoding.md R91, 60_exceptions.md R210, R226,
70_reset_and_hazards.md R230). -/

namespace Sys2Proof.Machine

/-- Settles O5: a reserved word decodes to no operation, and for such a word the step answers the taken state. -/
theorem reservedWordChangesNothing : Obligations.ReservedWordChangesNothing := by
  unfold Obligations.ReservedWordChangesNothing
  intro s op data now rest hreserved hport
  obtain ⟨e, he⟩ : ∃ e, decode (op ++ data) = .error e := exists_decode_eq_error_of_reserved hreserved
  rw [step_of_word hport, performWord_error he]
  rfl

/-- Settles O6: the step takes the input, samples the clock and runs what the word decodes to. -/
theorem stepRunsDecodedOperation : Obligations.StepRunsDecodedOperation := by
  unfold Obligations.StepRunsDecodedOperation
  intro s w now rest i hport hdecode
  rw [step_of_word hport, performWord_ok hdecode]
  rfl

/-- Settles O7: the idle step is the model's first case. -/
theorem idleStepHoldsState : Obligations.IdleStepHoldsState := by
  unfold Obligations.IdleStepHoldsState
  exact fun s hport => step_of_idle hport

theorem performWord_answers (w : OpWord) (s : State) : ∃ t, performWord w s = .next t := by
  cases hdecode : decode w with
  | ok i => exact ⟨_, (performWord_ok hdecode s).trans (exec_eq_next i s)⟩
  | error e => exact ⟨_, performWord_error hdecode s⟩

theorem step_answers (s : State) : ∃ t, step s = .next t := by
  cases hport : s.port with
  | nil => exact ⟨s, step_of_idle hport⟩
  | cons input rest =>
    cases input with
    | rst d => exact ⟨_, step_of_rst hport⟩
    | op w now => exact step_of_word hport ▸ performWord_answers w _

/-- Settles O8: every meaning is a total function, and idle steps, RESET and reserved words answer a state as well. -/
theorem everyOperationAnswersNextState : Obligations.EveryOperationAnswersNextState := by
  unfold Obligations.EveryOperationAnswersNextState
  exact ⟨fun i s => ⟨_, exec_eq_next i s⟩, step_answers⟩

/-- Settles O9: the reset event gives each field its value, and the canonical form of the drawn bytes reads as drawn. -/
theorem resetEventInitialises : Obligations.ResetEventInitialises := by
  unfold Obligations.ResetEventInitialises
  intro s d rest hport
  refine ⟨_, step_of_rst hport, rfl, rfl, rfl, rfl, rfl, rfl, rfl, rfl, rfl, fun i hi => ?_, rfl, rfl, rfl, rfl⟩
  exact Memory.read_ofVector d.buf i hi

/-- Settles O10: by the definition of the reset state. -/
theorem resetStateHasSpecifiedValues : Obligations.ResetStateHasSpecifiedValues := by
  unfold Obligations.ResetStateHasSpecifiedValues
  exact ⟨rfl, rfl, rfl, rfl, rfl, rfl, rfl⟩

end Sys2Proof.Machine
end

section
/-! PROOFS. SETMODE and the accessors (42_control_and_access.md R160 to R168). -/

namespace Sys2Proof.Machine

/-- R160: the operand's value as a number decides. -/
theorem modeOf_eq_ite_toNat (cfg : Config) (m : Byte) :
    modeOf cfg m =
      if m.toNat = 0 then .all else if m.toNat = 1 then .gyro else if m.toNat = 2 then .euler else cfg.defaultMode := by
  have hval (n : Byte) : m = n ↔ m.toNat = n.toNat := BitVec.toNat_inj.symm
  simp only [modeOf, hval]
  rfl

/-- Settles O32: the state `Instr.next` gives is the one stated, once the operand is read as a number. -/
theorem setmodeSelectsModeAndClearsFraming : Obligations.SetmodeSelectsModeAndClearsFraming := by
  unfold Obligations.SetmodeSelectsModeAndClearsFraming
  intro s m
  rw [exec_eq_next, ← modeOf_eq_ite_toNat]
  rfl

/-- Settles O33: the second SETMODE reads the parameters alone, which the first keeps, and writes every field the first
wrote. -/
theorem secondSetmodeDecides : Obligations.SecondSetmodeDecides := by
  unfold Obligations.SecondSetmodeDecides
  intro s t m m' hexec
  obtain rfl := exec_eq_next_iff.mp hexec
  rfl

/-- Settles O34: by the meaning of RDALL. -/
theorem rdallReturnsFrame : Obligations.RdallReturnsFrame := by
  unfold Obligations.RdallReturnsFrame
  exact fun s => exec_eq_next .rdall s

/-- Settles O35: by the meaning of RDGYRO. -/
theorem rdgyroReturnsFrame : Obligations.RdgyroReturnsFrame := by
  unfold Obligations.RdgyroReturnsFrame
  exact fun s => exec_eq_next .rdgyro s

/-- Settles O36: by the meaning of RDEULER. -/
theorem rdeulerReturnsFrame : Obligations.RdeulerReturnsFrame := by
  unfold Obligations.RdeulerReturnsFrame
  exact fun s => exec_eq_next .rdeuler s

/-- R167: the subtraction of 32-bit words is the difference of their values modulo `2 ^ 32`. -/
theorem toNat_ageOf (now tGood : Word) :
    ((ageOf now tGood).toNat : Int) = ((now.toNat : Int) - (tGood.toNat : Int)) % 2 ^ 32 := by
  have hnow : now.toNat < 2 ^ 32 := now.isLt
  have htGood : tGood.toNat < 2 ^ 32 := tGood.isLt
  rw [ageOf, BitVec.toNat_sub]
  omega

/-- Settles O38: the result is the word difference. -/
theorem ageIsModularDifference : Obligations.AgeIsModularDifference := by
  unfold Obligations.AgeIsModularDifference
  exact fun s => ⟨_, exec_eq_next .age s, toNat_ageOf s.now s.tGood⟩

/-- The five operations of R163 to R167. -/
def Instr.IsAccessor (i : Instr) : Prop := i = .rdall ∨ i = .rdgyro ∨ i = .rdeuler ∨ (∃ c, i = .qnew c) ∨ i = .age

/-- R163 to R167: an accessor writes `new_data` and the result at most. -/
theorem Instr.next_of_isAccessor {i : Instr} (s : State) (h : Instr.IsAccessor i) :
    ∃ d r, Instr.next i s = { s with newData := d, res := r } := by
  rcases h with rfl | rfl | rfl | ⟨c, rfl⟩ | rfl
  · exact ⟨_, _, rfl⟩
  · exact ⟨_, _, rfl⟩
  · exact ⟨_, _, rfl⟩
  · exact ⟨_, _, (exec_eq_next_iff.mp (qnewReportsThenClears s c)).symm⟩
  · exact ⟨_, _, rfl⟩

/-- Settles O39: every field but `new_data` and the result is untouched, and AGE and `QNEW 0` do not clear the flag. -/
theorem accessorFrame : Obligations.AccessorFrame := by
  unfold Obligations.AccessorFrame
  intro s t i haccessor hexec
  obtain rfl := exec_eq_next_iff.mp hexec
  have hkeep : i = .age ∨ i = .qnew 0#1 → (Instr.next i s).newData = s.newData := by
    rintro (rfl | rfl) <;> rfl
  obtain ⟨d, r, hnext⟩ := Instr.next_of_isAccessor s haccessor
  rw [hnext] at hkeep ⊢
  exact ⟨rfl, rfl, fun _ => rfl, rfl, rfl, rfl, rfl, rfl, rfl, rfl, rfl, rfl, hkeep⟩

end Sys2Proof.Machine
end

section
/-! PROOFS. The packet events: which operation completes one, what it writes, and that no other operation writes the
flags, the counters, the timestamp or the SensorFrame (40_framer.md R115, R116, R119). -/

namespace Sys2Proof.Machine

/-- The operation completes a good packet (R115). -/
def Instr.CompletesGood (i : Instr) (s : State) : Prop := s.AwaitsTerminator ∧ i = .byte termByte

/-- The operation completes a bad packet (R116). -/
def Instr.CompletesBad (i : Instr) (s : State) : Prop := s.AwaitsTerminator ∧ ∃ b, b ≠ termByte ∧ i = .byte b

/-- What only packet events and RESET write, `new_data` aside (R34 to R41). -/
structure SameStatistics (s t : State) : Prop where
  lastGood : t.lastGood = s.lastGood
  goodCnt  : t.goodCnt = s.goodCnt
  badCnt   : t.badCnt = s.badCnt
  tGood    : t.tGood = s.tGood
  frame    : t.frame = s.frame

theorem SameStatistics.refl (s : State) : SameStatistics s s := ⟨rfl, rfl, rfl, rfl, rfl⟩

theorem SameStatistics.trans {s t u : State} (h : SameStatistics s t) (h' : SameStatistics t u) : SameStatistics s u :=
  ⟨h'.lastGood.trans h.lastGood, h'.goodCnt.trans h.goodCnt, h'.badCnt.trans h.badCnt, h'.tGood.trans h.tGood,
    h'.frame.trans h.frame⟩

theorem Instr.next_of_completesGood {i : Instr} {s : State} (h : Instr.CompletesGood i s) :
    Instr.next i s = s.goodPacket := by
  obtain ⟨hterm, rfl⟩ := h
  exact (State.consumeByte_of_awaitsTerminator _ hterm).trans (if_pos rfl)

theorem Instr.next_of_completesBad {i : Instr} {s : State} (h : Instr.CompletesBad i s) :
    Instr.next i s = s.badPacket := by
  obtain ⟨hterm, b, hb, rfl⟩ := h
  exact (State.consumeByte_of_awaitsTerminator _ hterm).trans (if_neg hb)

theorem Instr.not_completesBad_of_completesGood {i : Instr} {s : State} (h : Instr.CompletesGood i s) :
    ¬ Instr.CompletesBad i s := by
  obtain ⟨-, rfl⟩ := h
  rintro ⟨-, b, hb, heq⟩
  exact hb (Instr.byte.inj heq).symm

/-- Away from the terminator position BYTE moves the framer, the fill count and the buffer at most, and answers 0. -/
theorem State.consumeByte_of_not_awaitsTerminator {s : State} (b : Byte) (h : ¬ s.AwaitsTerminator) :
    ∃ f n m, s.consumeByte b = { s with fs := f, fill := n, buf := m, res := .evt false } := by
  rcases s.consumeByte_cases b with
    ⟨k, -, -, hnext⟩ | ⟨k, -, -, hnext⟩ | ⟨-, -, hnext⟩ | ⟨hfs, hfill, -⟩ | ⟨hfs, hfill, -⟩
  · exact ⟨_, _, _, hnext⟩
  · exact ⟨_, _, _, hnext⟩
  · exact ⟨_, _, _, hnext⟩
  · exact absurd ⟨hfs, hfill⟩ h
  · exact absurd ⟨hfs, hfill⟩ h

theorem State.consumeByte_sameStatistics {s : State} (b : Byte) (h : ¬ s.AwaitsTerminator) :
    SameStatistics s (s.consumeByte b) := by
  obtain ⟨f, n, m, hnext⟩ := State.consumeByte_of_not_awaitsTerminator b h
  rw [hnext]
  exact ⟨rfl, rfl, rfl, rfl, rfl⟩

theorem State.consumeByte_newData {s : State} (b : Byte) (h : ¬ s.AwaitsTerminator) :
    (s.consumeByte b).newData = s.newData := by
  obtain ⟨f, n, m, hnext⟩ := State.consumeByte_of_not_awaitsTerminator b h
  rw [hnext]

/-- BYTE completes one of the two packets exactly at the terminator position. -/
theorem not_awaitsTerminator_of_no_packet {b : Byte} {s : State} (hgood : ¬ Instr.CompletesGood (.byte b) s)
    (hbad : ¬ Instr.CompletesBad (.byte b) s) : ¬ s.AwaitsTerminator := by
  intro hterm
  by_cases hb : b = termByte
  · exact hgood ⟨hterm, congrArg Instr.byte hb⟩
  · exact hbad ⟨hterm, b, hb, rfl⟩

theorem Instr.next_sameStatistics {i : Instr} {s : State} (hgood : ¬ Instr.CompletesGood i s)
    (hbad : ¬ Instr.CompletesBad i s) : SameStatistics s (Instr.next i s) := by
  cases i with
  | byte b => exact State.consumeByte_sameStatistics b (not_awaitsTerminator_of_no_packet hgood hbad)
  | setmode m => exact ⟨rfl, rfl, rfl, rfl, rfl⟩
  | qnew c =>
    obtain ⟨d, r, hnext⟩ := Instr.next_of_isAccessor s (.inr (.inr (.inr (.inl ⟨c, rfl⟩))))
    rw [hnext]
    exact ⟨rfl, rfl, rfl, rfl, rfl⟩
  | rdall | rdgyro | rdeuler | age => exact ⟨rfl, rfl, rfl, rfl, rfl⟩

/-- Settles O14: the state `goodPacket` builds is the one stated. -/
theorem goodPacketCompletes : Obligations.GoodPacketCompletes := by
  unfold Obligations.GoodPacketCompletes
  intro s hfs hfill
  exact exec_eq_next_iff.mpr (Instr.next_of_completesGood ⟨⟨hfs, hfill⟩, rfl⟩).symm

/-- Settles O15: the state `badPacket` builds is the one stated. -/
theorem badPacketCompletes : Obligations.BadPacketCompletes := by
  unfold Obligations.BadPacketCompletes
  intro s b hfs hfill hb
  exact exec_eq_next_iff.mpr (Instr.next_of_completesBad ⟨⟨hfs, hfill⟩, b, hb, rfl⟩).symm

/-- A byte that the framer does not store leaves every byte of the buffer; a stored one leaves every other. -/
theorem State.read_consumeByte_of_storeIndex_ne {s : State} {a : Nat} (b : Byte) (hwf : s.buf.wf = true)
    (h : s.storeIndex ≠ some a) : (s.consumeByte b).buf.read a = s.buf.read a := by
  rw [State.consumeByte_buf]
  cases hi : s.storeIndex with
  | none => rfl
  | some n => exact Memory.read_write_other b hwf fun heq => h (heq ▸ hi)

/-- Settles O17: the buffer is written at `storeIndex` alone, and the packet event writes the flags and the counters. -/
theorem byteFrame : Obligations.ByteFrame := by
  unfold Obligations.ByteFrame
  intro s t b hwf hexec
  obtain rfl : t = s.consumeByte b := exec_eq_next_iff.mp hexec
  obtain ⟨hcfg, hmode, hport, hnow⟩ := s.consumeByte_keeps b
  have hstats := State.consumeByte_sameStatistics (s := s) b
  refine ⟨hmode, hcfg, hport, hnow, fun hnew => ?_, fun _ i hi => ?_, fun hno i => ?_, fun hno => ?_, fun hno => ?_,
    fun hgood => ?_, fun hfs => ?_⟩
  · by_cases hterm : s.AwaitsTerminator
    · rw [State.consumeByte_of_awaitsTerminator b hterm]
      split <;> rfl
    · rw [State.consumeByte_newData b hterm, hnew]
  · exact State.read_consumeByte_of_storeIndex_ne b hwf fun h => hi (State.storeIndex_eq_some.mp h).2.2.symm
  · refine State.read_consumeByte_of_storeIndex_ne b hwf fun h => hno ?_
    obtain ⟨hfs, hfill, -⟩ := State.storeIndex_eq_some.mp h
    exact ⟨hfs, hfill⟩
  · exact ⟨State.consumeByte_newData b hno, (hstats hno).lastGood, (hstats hno).badCnt⟩
  · by_cases hterm : s.AwaitsTerminator
    · have hbad : s.consumeByte b = s.badPacket :=
        Instr.next_of_completesBad ⟨hterm, b, fun hb => hno ⟨hterm, hb⟩, rfl⟩
      rw [hbad]
      exact ⟨rfl, rfl, rfl⟩
    · exact ⟨(hstats hterm).goodCnt, (hstats hterm).tGood, (hstats hterm).frame⟩
  · have hnext : s.consumeByte b = s.goodPacket :=
      Instr.next_of_completesGood ⟨hgood.1, congrArg Instr.byte hgood.2⟩
    rw [hnext]
    rfl
  · rcases s.consumeByte_cases b with ⟨k, -, -, hnext⟩ | ⟨k, -, -, hnext⟩ | ⟨hc, -⟩ | ⟨hc, -⟩ | ⟨hc, -⟩
    · rw [hnext]; rfl
    · rw [hnext]; rfl
    · exact absurd hc hfs
    · exact absurd hc hfs
    · exact absurd hc hfs

end Sys2Proof.Machine
end

section
/-! PROOFS. The rules over every step (10_state.md R31 to R41). -/

namespace Sys2Proof.Machine

/-- The state in which the operation at the front of the port runs. -/
def State.taken (s : State) (rest : List Input) (now : Word) : State := (s.takeInput rest).sampleClock now

/-- What a step can do, in terms of operations: RESET, an operation, or, idle or on a reserved word, nothing to the
block. -/
theorem step_effects {s t : State} (h : step s = .next t) :
    (∃ d rest, s.port = .rst d :: rest ∧ t = (s.takeInput rest).resetEvent d) ∨
    (∃ i now rest, s.port = .op (encode i) now :: rest ∧ t = Instr.next i (s.taken rest now)) ∨
    ((∀ i, ¬ s.AtWord (encode i)) ∧ ∃ p n r, t = { s with port := p, now := n, res := r }) := by
  rcases step_cases h with
    ⟨hport, rfl⟩ | ⟨d, rest, hport, rfl⟩ | ⟨w, now, rest, e, hport, hdecode, rfl⟩ |
    ⟨w, now, rest, i, hport, hdecode, rfl⟩
  · refine .inr (.inr ⟨?_, _, _, _, rfl⟩)
    rintro i ⟨now, rest, hword⟩
    cases hport.symm.trans hword
  · exact .inl ⟨d, rest, hport, rfl⟩
  · refine .inr (.inr ⟨?_, _, _, _, rfl⟩)
    rintro i ⟨now', rest', hword⟩
    cases hport.symm.trans hword
    rw [decode_encode] at hdecode
    cases hdecode
  · rw [decode_eq_ok_iff.mp hdecode] at hport
    exact .inr (.inl ⟨i, now, rest, hport, rfl⟩)

theorem not_atWord_of_rst {s : State} {d : ResetDraw} {rest : List Input} (hport : s.port = .rst d :: rest)
    (w : OpWord) : ¬ s.AtWord w := by
  rintro ⟨now, rest', hword⟩
  cases hport.symm.trans hword

section
variable {s : State} {i : Instr} {now : Word} {rest : List Input} (hport : s.port = .op (encode i) now :: rest)
include hport

theorem atWord_encode_iff (j : Instr) : s.AtWord (encode j) ↔ i = j := by
  constructor
  · rintro ⟨now', rest', hword⟩
    have heq := hport.symm.trans hword
    simp only [List.cons.injEq, Input.op.injEq] at heq
    exact encode_inj.mp heq.1.1
  · rintro rfl
    exact ⟨now, rest, hport⟩

theorem atGoodPacket_iff_completesGood : s.AtGoodPacket ↔ Instr.CompletesGood i (s.taken rest now) :=
  and_congr_right fun _ => atWord_encode_iff hport (.byte termByte)

theorem atBadPacket_iff_completesBad : s.AtBadPacket ↔ Instr.CompletesBad i (s.taken rest now) :=
  and_congr_right fun _ => exists_congr fun b => and_congr_right fun _ => atWord_encode_iff hport (.byte b)

end

/-- What a step does to the statistics: a packet event's update, or nothing, RESET aside. -/
theorem step_packet_cases {s t : State} (h : step s = .next t) :
    (s.AtReset ∧ ¬ s.AtGoodPacket ∧ ¬ s.AtBadPacket) ∨
    (s.AtGoodPacket ∧ ¬ s.AtBadPacket ∧ ∃ rest now, t = (s.taken rest now).goodPacket) ∨
    (s.AtBadPacket ∧ ¬ s.AtGoodPacket ∧ ∃ rest now, t = (s.taken rest now).badPacket) ∨
    (¬ s.AtGoodPacket ∧ ¬ s.AtBadPacket ∧ SameStatistics s t) := by
  rcases step_effects h with
    ⟨d, rest, hport, -⟩ | ⟨i, now, rest, hport, rfl⟩ | ⟨hword, p, n, r, rfl⟩
  · exact .inl ⟨⟨d, rest, hport⟩, fun hgood => not_atWord_of_rst hport _ hgood.2,
      fun ⟨_, _, _, hbyte⟩ => not_atWord_of_rst hport _ hbyte⟩
  · rw [atGoodPacket_iff_completesGood hport, atBadPacket_iff_completesBad hport]
    by_cases hgood : Instr.CompletesGood i (s.taken rest now)
    · exact .inr (.inl ⟨hgood, Instr.not_completesBad_of_completesGood hgood, rest, now,
        Instr.next_of_completesGood hgood⟩)
    by_cases hbad : Instr.CompletesBad i (s.taken rest now)
    · exact .inr (.inr (.inl ⟨hbad, hgood, rest, now, Instr.next_of_completesBad hbad⟩))
    obtain ⟨hlast, hgoodCnt, hbadCnt, htGood, hframe⟩ := Instr.next_sameStatistics hgood hbad
    exact .inr (.inr (.inr ⟨hgood, hbad, hlast, hgoodCnt, hbadCnt, htGood, hframe⟩))
  · exact .inr (.inr (.inr ⟨fun hgood => hword (.byte termByte) hgood.2,
      fun ⟨_, b, _, hbyte⟩ => hword (.byte b) hbyte, rfl, rfl, rfl, rfl, rfl⟩))

/-- Settles O40: of the four things a step does to the statistics, only RESET and a good packet touch these. -/
theorem onlyGoodPacketsWriteFrameAndGoodCount : Obligations.OnlyGoodPacketsWriteFrameAndGoodCount := by
  unfold Obligations.OnlyGoodPacketsWriteFrameAndGoodCount
  intro s t hstep
  rcases step_packet_cases hstep with
    ⟨hreset, hgood, -⟩ | ⟨hgood, -, rest, now, rfl⟩ | ⟨-, hgood, rest, now, rfl⟩ | ⟨hgood, -, hsame⟩
  · exact ⟨fun hno => absurd hreset hno, fun h => absurd h hgood⟩
  · exact ⟨fun _ hno => absurd hgood hno, fun _ => BitVec.toNat_add s.goodCnt 1⟩
  · exact ⟨fun _ _ => ⟨rfl, rfl, rfl⟩, fun h => absurd h hgood⟩
  · exact ⟨fun _ _ => ⟨hsame.goodCnt, hsame.tGood, hsame.frame⟩, fun h => absurd h hgood⟩

/-- Settles O41: of the four things a step does to the statistics, only RESET and the two packets touch these. -/
theorem onlyPacketEventsWriteLastGoodAndBadCount : Obligations.OnlyPacketEventsWriteLastGoodAndBadCount := by
  unfold Obligations.OnlyPacketEventsWriteLastGoodAndBadCount
  intro s t hstep
  rcases step_packet_cases hstep with
    ⟨hreset, hgood, hbad⟩ | ⟨hgood, hbad, rest, now, rfl⟩ | ⟨hbad, hgood, rest, now, rfl⟩ | ⟨hgood, hbad, hsame⟩
  · exact ⟨fun hno => absurd hreset hno, fun h => absurd h hbad, fun h => absurd h hgood,
      fun hno => absurd hreset hno⟩
  · exact ⟨fun _ _ => rfl, fun h => absurd h hbad, fun _ => rfl, fun _ _ hno => absurd hgood hno⟩
  · exact ⟨fun _ hno => absurd hbad hno, fun _ => ⟨BitVec.toNat_add s.badCnt 1, rfl⟩, fun h => absurd h hgood,
      fun _ hno => absurd hbad hno⟩
  · exact ⟨fun _ _ => hsame.badCnt, fun h => absurd h hbad, fun h => absurd h hgood, fun _ _ _ => hsame.lastGood⟩

/-- The operations that clear `new_data` (R33). -/
def Instr.ClearsNewData (i : Instr) : Prop := i = .rdall ∨ i = .rdgyro ∨ i = .rdeuler ∨ i = .qnew 1#1

theorem Instr.next_newData_of_clearsNewData {i : Instr} (s : State) (h : Instr.ClearsNewData i) :
    (Instr.next i s).newData = false := by
  obtain rfl | rfl | rfl | rfl := h <;> rfl

theorem Instr.next_newData_of_not_clearsNewData {i : Instr} {s : State} (hclear : ¬ Instr.ClearsNewData i)
    (hgood : ¬ Instr.CompletesGood i s) (hbad : ¬ Instr.CompletesBad i s) :
    (Instr.next i s).newData = s.newData := by
  cases i with
  | byte b => exact State.consumeByte_newData b (not_awaitsTerminator_of_no_packet hgood hbad)
  | rdall => exact absurd (.inl rfl) hclear
  | rdgyro => exact absurd (.inr (.inl rfl)) hclear
  | rdeuler => exact absurd (.inr (.inr (.inl rfl))) hclear
  | qnew c =>
    rw [Instr.next_qnew_of_keep s fun hc => hclear (.inr (.inr (.inr (congrArg Instr.qnew hc))))]
    rfl
  | setmode _ | age => rfl

/-- No operation both clears the flag and completes a packet. -/
theorem Instr.not_clearsNewData_byte (b : Byte) : ¬ Instr.ClearsNewData (.byte b) := by
  rintro (h | h | h | h) <;> cases h

/-- The next input is the word of one of the operations that clear `new_data`. -/
def State.AtClearingWord (s : State) : Prop :=
  s.AtWord 0x200#11 ∨ s.AtWord 0x201#11 ∨ s.AtWord 0x202#11 ∨ s.AtWord 0x301#11

theorem atClearingWord_iff_clearsNewData {s : State} {i : Instr} {now : Word} {rest : List Input}
    (hport : s.port = .op (encode i) now :: rest) : s.AtClearingWord ↔ Instr.ClearsNewData i :=
  or_congr (atWord_encode_iff hport .rdall) (or_congr (atWord_encode_iff hport .rdgyro)
    (or_congr (atWord_encode_iff hport .rdeuler) (atWord_encode_iff hport (.qnew 1#1))))

/-- What an operation does to `new_data`: a packet event sets it, the listed operations clear it, the others keep it. -/
theorem Instr.next_newData_cases (i : Instr) (s : State) :
    ((Instr.CompletesGood i s ∨ Instr.CompletesBad i s) ∧ ¬ Instr.ClearsNewData i ∧ (Instr.next i s).newData = true) ∨
    (¬ (Instr.CompletesGood i s ∨ Instr.CompletesBad i s) ∧ Instr.ClearsNewData i ∧
      (Instr.next i s).newData = false) ∨
    (¬ (Instr.CompletesGood i s ∨ Instr.CompletesBad i s) ∧ ¬ Instr.ClearsNewData i ∧
      (Instr.next i s).newData = s.newData) := by
  by_cases hpacket : Instr.CompletesGood i s ∨ Instr.CompletesBad i s
  · refine .inl ⟨hpacket, ?_⟩
    rcases hpacket with hgood | hbad
    · rw [Instr.next_of_completesGood hgood, hgood.2]
      exact ⟨Instr.not_clearsNewData_byte _, rfl⟩
    · obtain ⟨b, -, hi⟩ := hbad.2
      rw [Instr.next_of_completesBad hbad, hi]
      exact ⟨Instr.not_clearsNewData_byte _, rfl⟩
  by_cases hclear : Instr.ClearsNewData i
  · exact .inr (.inl ⟨hpacket, hclear, Instr.next_newData_of_clearsNewData s hclear⟩)
  · obtain ⟨hgood, hbad⟩ := not_or.mp hpacket
    exact .inr (.inr ⟨hpacket, hclear, Instr.next_newData_of_not_clearsNewData hclear hgood hbad⟩)

/-- Settles O42: RESET clears the flag, an operation acts on it as listed, and any other step keeps it. -/
theorem newDataSetAndClearedOnlyAsListed : Obligations.NewDataSetAndClearedOnlyAsListed := by
  unfold Obligations.NewDataSetAndClearedOnlyAsListed
  intro s t hstep
  change _ ∧ _ ∧ (_ → _ → s.AtReset ∨ s.AtClearingWord) ∧ (s.AtClearingWord → _)
  rcases step_effects hstep with
    ⟨d, rest, hport, rfl⟩ | ⟨i, now, rest, hport, rfl⟩ | ⟨hword, p, n, r, rfl⟩
  · have hno (w : OpWord) := not_atWord_of_rst hport w
    refine ⟨?_, fun _ h => Bool.noConfusion h, fun _ _ => .inl ⟨d, rest, hport⟩, fun _ => rfl⟩
    rintro (⟨-, h⟩ | ⟨-, b, -, h⟩)
    · exact absurd h (hno _)
    · exact absurd h (hno _)
  · rw [atGoodPacket_iff_completesGood hport, atBadPacket_iff_completesBad hport,
      atClearingWord_iff_clearsNewData hport]
    rcases Instr.next_newData_cases i (s.taken rest now) with
      ⟨hpacket, hclear, hnew⟩ | ⟨hpacket, hclear, hnew⟩ | ⟨hpacket, hclear, hnew⟩
    all_goals rw [hnew]
    · exact ⟨fun _ => rfl, fun _ _ => hpacket, fun _ h => Bool.noConfusion h, fun h => absurd h hclear⟩
    · exact ⟨fun h => absurd h hpacket, fun _ h => Bool.noConfusion h, fun _ _ => .inr hclear, fun _ => rfl⟩
    · exact ⟨fun h => absurd h hpacket, fun hf ht => Bool.noConfusion (hf.symm.trans ht),
        fun ht hf => Bool.noConfusion (hf.symm.trans ht), fun h => absurd h hclear⟩
  · have hpacket : ¬ (s.AtGoodPacket ∨ s.AtBadPacket) := by
      rintro (⟨-, h⟩ | ⟨-, b, -, h⟩)
      · exact hword (.byte termByte) h
      · exact hword (.byte b) h
    have hclear : ¬ s.AtClearingWord := by
      rintro (h | h | h | h)
      · exact hword .rdall h
      · exact hword .rdgyro h
      · exact hword .rdeuler h
      · exact hword (.qnew 1#1) h
    exact ⟨fun h => absurd h hpacket, fun hf ht => Bool.noConfusion (hf.symm.trans ht),
      fun ht hf => Bool.noConfusion (hf.symm.trans ht), fun h => absurd h hclear⟩

/-- No operation writes the parameters, and only SETMODE writes the mode (R31, R32). -/
theorem Instr.next_cfg_mode (i : Instr) (s : State) :
    (Instr.next i s).cfg = s.cfg ∧
      ((Instr.next i s).mode = s.mode ∨ ∃ m, i = .setmode m ∧ (Instr.next i s).mode = modeOf s.cfg m) := by
  cases i with
  | byte b =>
    obtain ⟨hcfg, hmode, -⟩ := s.consumeByte_keeps b
    exact ⟨hcfg, .inl hmode⟩
  | setmode m => exact ⟨rfl, .inr ⟨m, rfl, rfl⟩⟩
  | qnew c =>
    obtain ⟨d, r, hnext⟩ := Instr.next_of_isAccessor s (.inr (.inr (.inr (.inl ⟨c, rfl⟩))))
    rw [hnext]
    exact ⟨rfl, .inl rfl⟩
  | rdall | rdgyro | rdeuler | age => exact ⟨rfl, .inl rfl⟩

/-- Settles O43: of the things a step can do, RESET and SETMODE alone write the mode. -/
theorem onlySetmodeAndResetWriteMode : Obligations.OnlySetmodeAndResetWriteMode := by
  unfold Obligations.OnlySetmodeAndResetWriteMode
  intro s t hstep
  rcases step_effects hstep with
    ⟨d, rest, hport, rfl⟩ | ⟨i, now, rest, hport, rfl⟩ | ⟨-, p, n, r, rfl⟩
  · exact ⟨rfl, fun _ => .inl ⟨d, rest, hport⟩⟩
  · obtain ⟨hcfg, hmode | ⟨m, rfl, hmode⟩⟩ := Instr.next_cfg_mode i (s.taken rest now)
    · exact ⟨hcfg, fun hne => absurd hmode hne⟩
    · exact ⟨hcfg, fun _ => .inr ⟨m, ⟨now, rest, hport⟩, hmode⟩⟩
  · exact ⟨rfl, fun hne => absurd rfl hne⟩

end Sys2Proof.Machine
end

section
/-! PROOFS. The error classes of the terminator, of SETMODE and of the store (60_exceptions.md R212 to R214). -/

namespace Sys2Proof.Machine

/-- R214: the index of a stored byte lies inside the buffer. -/
theorem byteError_of_storeIndex_eq_some {s : State} {a : Nat} (b : Byte) (h : s.storeIndex = some a) :
    byteError b s = none := by
  obtain ⟨-, hfill, ha⟩ := State.storeIndex_eq_some.mp h
  have hlt : a < bufCap := ha ▸ hfill.trans_le (payloadLen_le_bufCap s.mode)
  simp only [byteError, h, if_pos hlt]

theorem State.storeIndex_of_awaitsTerminator {s : State} (h : s.AwaitsTerminator) : s.storeIndex = none := by
  obtain ⟨hfs, hfill⟩ := h
  simp only [State.storeIndex, hfs, if_neg (Nat.not_lt.mpr hfill)]

/-- R212: at the terminator position the comparison with the terminator alone decides the error. -/
theorem byteError_of_awaitsTerminator {s : State} (b : Byte) (h : s.AwaitsTerminator) :
    byteError b s = if b = termByte then none else some .badpkt := by
  simp only [byteError, State.storeIndex_of_awaitsTerminator h, h.1]

/-- R211 to R214: a byte sought, stored, or awaited as terminator. -/
theorem byteError_cases (b : Byte) (s : State) :
    (∃ k, s.fs = .seekByte k ∧ byteError b s = if b = s.cfg.magic[k] then none else some .desync) ∨
    (¬ s.AwaitsTerminator ∧ byteError b s = none) ∨
    (s.AwaitsTerminator ∧ byteError b s = if b = termByte then none else some .badpkt) := by
  cases hfs : s.fs with
  | seekByte k => exact .inl ⟨k, rfl, byteError_of_seekByte b hfs⟩
  | collecting =>
    by_cases hfill : s.fill.toNat < payloadLen s.mode
    · exact .inr (.inl ⟨fun h => absurd h.2 (Nat.not_le.mpr hfill),
        byteError_of_storeIndex_eq_some b (State.storeIndex_eq_some.mpr ⟨hfs, hfill, rfl⟩)⟩)
    · have hterm : s.AwaitsTerminator := ⟨hfs, Nat.not_lt.mp hfill⟩
      exact .inr (.inr ⟨hterm, byteError_of_awaitsTerminator b hterm⟩)

theorem byteError_eq_badpkt_iff {b : Byte} {s : State} :
    byteError b s = some .badpkt ↔ s.AwaitsTerminator ∧ b ≠ termByte := by
  rcases byteError_cases b s with ⟨k, hfs, herr⟩ | ⟨hterm, herr⟩ | ⟨hterm, herr⟩
  all_goals rw [herr]
  · have hterm : ¬ s.AwaitsTerminator := fun h => by cases hfs.symm.trans h.1
    split <;> simp [hterm]
  · simp [hterm]
  · by_cases hb : b = termByte <;> simp [hterm, hb]

/-- R211, R212: BYTE meets no class but these two. -/
theorem byteError_ne_overrun_and_ne_badmode (b : Byte) (s : State) :
    byteError b s ≠ some .overrun ∧ byteError b s ≠ some .badmode := by
  rcases byteError_cases b s with ⟨k, -, herr⟩ | ⟨-, herr⟩ | ⟨-, herr⟩
  all_goals rw [herr]
  · split <;> simp
  · simp
  · split <;> simp

theorem errorMet_eq_badpkt_iff {i : Instr} {s : State} :
    errorMet i s = some .badpkt ↔ ∃ b : Byte, i = .byte b ∧ s.AwaitsTerminator ∧ b ≠ termByte := by
  cases i with
  | byte b => simp [errorMet, byteError_eq_badpkt_iff]
  | setmode m => by_cases hm : 2 < m.toNat <;> simp [errorMet, hm]
  | rdall | rdgyro | rdeuler | qnew _ | age => simp [errorMet]

/-- Settles O45: the error is met exactly where R116 completes a bad packet. -/
theorem badPacketErrorIsCountedAndFlagged : Obligations.BadPacketErrorIsCountedAndFlagged := by
  unfold Obligations.BadPacketErrorIsCountedAndFlagged
  refine ⟨fun i s => errorMet_eq_badpkt_iff, fun i s h => ?_⟩
  obtain ⟨b, rfl, ⟨hfs, hfill⟩, hb⟩ := errorMet_eq_badpkt_iff.mp h
  exact badPacketCompletes s b hfs hfill hb

theorem errorMet_eq_badmode_iff {i : Instr} {s : State} :
    errorMet i s = some .badmode ↔ ∃ m : Byte, i = .setmode m ∧ 2 < m.toNat := by
  cases i with
  | byte b => simp [errorMet, (byteError_ne_overrun_and_ne_badmode b s).2]
  | setmode m => simp [errorMet]
  | rdall | rdgyro | rdeuler | qnew _ | age => simp [errorMet]

/-- R160, R92: an operand above 2 selects the default mode. -/
theorem modeOf_of_two_lt {cfg : Config} {m : Byte} (h : 2 < m.toNat) : modeOf cfg m = cfg.defaultMode := by
  rw [modeOf_eq_ite_toNat, if_neg (by omega), if_neg (by omega), if_neg (by omega)]

/-- Settles O46: SETMODE with such an operand is SETMODE of the default mode. -/
theorem badModeIsCoerced : Obligations.BadModeIsCoerced := by
  unfold Obligations.BadModeIsCoerced
  refine ⟨fun i s => errorMet_eq_badmode_iff, fun i s h => ?_⟩
  obtain ⟨m, rfl, hm⟩ := errorMet_eq_badmode_iff.mp h
  rw [exec_eq_next, ← modeOf_of_two_lt hm]
  rfl

theorem errorMet_ne_overrun (i : Instr) (s : State) : errorMet i s ≠ some .overrun := by
  cases i with
  | byte b => exact (byteError_ne_overrun_and_ne_badmode b s).1
  | setmode m => by_cases hm : 2 < m.toNat <;> simp [errorMet, hm]
  | rdall | rdgyro | rdeuler | qnew _ | age => simp [errorMet]

/-- Settles O47: BYTE tests the fill count against the payload length before it stores, and only BYTE stores. -/
theorem overrunNeverMet : Obligations.OverrunNeverMet := by
  unfold Obligations.OverrunNeverMet
  refine ⟨errorMet_ne_overrun, fun s a h => ?_, fun i s t hwf hexec a ha => ?_⟩
  · obtain ⟨-, hfill, rfl⟩ := State.storeIndex_eq_some.mp h
    exact ⟨rfl, hfill, hfill.trans_le (payloadLen_le_bufCap s.mode)⟩
  · obtain rfl := exec_eq_next_iff.mp hexec
    by_cases hbyte : ∃ b, i = .byte b
    · obtain ⟨b, rfl⟩ := hbyte
      exact State.read_consumeByte_of_storeIndex_ne b hwf (ha.resolve_left fun h => h b rfl)
    · rw [Instr.next_buf_of_ne_byte s (not_exists.mp hbyte)]

end Sys2Proof.Machine
end

section
/-! PROOFS. The gyroscope path's numbers (41_decoder.md R133 to R135). -/

namespace Sys2Proof.Machine

/-- R134: the quotient rounded toward zero, as division of the magnitude. -/
theorem gyroI_eq_ite (n : Int) : gyroI n = if 0 ≤ n then 25 * n / 64 else -(25 * -n / 64) := by
  unfold gyroI tdiv
  split
  next hn => exact Int.tdiv_eq_ediv_of_nonneg (by omega)
  next hn =>
    rw [show 25 * n = -(25 * -n) by omega, Int.neg_tdiv, Int.tdiv_eq_ediv_of_nonneg (by omega)]

theorem gyroI_range {n : Int} (hlo : -32768 ≤ n) (hhi : n ≤ 32767) : -12800 ≤ gyroI n ∧ gyroI n ≤ 12799 := by
  rw [gyroI_eq_ite]
  split <;> omega

/-- D11: a 16-bit register holds a derived integer. -/
theorem toInt_ofInt_gyroI {n : Int} (hlo : -32768 ≤ n) (hhi : n ≤ 32767) :
    (BitVec.ofInt 16 (gyroI n)).toInt = gyroI n := by
  obtain ⟨h1, h2⟩ := gyroI_range hlo hhi
  exact BitVec.toInt_ofInt_eq_self (by decide) (by omega) (by omega)

/-- Settles O26: the fraction 100/256 is 25/64 in lowest terms, and division of the magnitude gives the bounds. -/
theorem derivedIntegerTruncates : Obligations.DerivedIntegerTruncates := by
  unfold Obligations.DerivedIntegerTruncates
  intro n hlo hhi
  have hscale : gyroI n = Int.tdiv (n * gyroIntFactor) gyroScaleInv := by
    rw [gyroI, tdiv, show n * gyroIntFactor = 4 * (25 * n) by unfold gyroIntFactor; omega,
      show gyroScaleInv = 4 * 64 from rfl, Int.mul_tdiv_mul_of_pos _ _ (by decide)]
  obtain ⟨h1, h2⟩ := gyroI_range hlo hhi
  refine ⟨hscale, fun hn => ?_, fun hn => ?_, h1, h2, toInt_ofInt_gyroI hlo hhi⟩
  · rw [gyroI_eq_ite, if_pos hn]
    omega
  · rw [gyroI_eq_ite]
    split <;> omega

theorem gyroChk_eq_tmod (i0 i1 i2 : Int) : gyroChk i0 i1 i2 = Int.tmod (i0 + i1 + i2) 10 := trem_eq_tmod _ _

theorem gyroChk_range (i0 i1 i2 : Int) : -9 ≤ gyroChk i0 i1 i2 ∧ gyroChk i0 i1 i2 ≤ 9 := by
  rw [gyroChk_eq_tmod]
  have h1 := Int.tmod_lt_of_pos (i0 + i1 + i2) (show (0 : Int) < 10 by decide)
  have h2 := Int.lt_tmod_of_pos (i0 + i1 + i2) (show (0 : Int) < 10 by decide)
  omega

/-- D11: an 8-bit register holds a checksum. -/
theorem toInt_ofInt_gyroChk (i0 i1 i2 : Int) :
    (BitVec.ofInt 8 (gyroChk i0 i1 i2)).toInt = gyroChk i0 i1 i2 := by
  obtain ⟨h1, h2⟩ := gyroChk_range i0 i1 i2
  exact BitVec.toInt_ofInt_eq_self (by decide) (by omega) (by omega)

/-- Settles O27: `trem` is the truncated remainder, which has the sign of the dividend. -/
theorem checksumKeepsSign : Obligations.ChecksumKeepsSign := by
  unfold Obligations.ChecksumKeepsSign
  intro i0 i1 i2 c
  obtain ⟨h1, h2⟩ := gyroChk_range i0 i1 i2
  refine ⟨⟨Int.tdiv (i0 + i1 + i2) 10, ?_⟩, h1, h2, fun hsum => ?_, fun hsum => ?_, toInt_ofInt_gyroChk i0 i1 i2⟩
  · have hdiv := Int.tdiv_mul_add_tmod (i0 + i1 + i2) 10
    rw [← gyroChk_eq_tmod] at hdiv
    exact hdiv.symm
  · have hnonneg := Int.tmod_nonneg 10 hsum
    rwa [← gyroChk_eq_tmod] at hnonneg
  · have hneg := Int.tmod_nonneg (a := -(i0 + i1 + i2)) 10 (by omega)
    rw [Int.neg_tmod, ← gyroChk_eq_tmod] at hneg
    omega

/-! ### The float -/

/-- R90: a pattern whose three fields are in range is their concatenation. -/
theorem packBinary32_eq_append {s e f : Nat} (hs : s < 2) (he : e < 2 ^ 8) (hf : f < 2 ^ 23) :
    packBinary32 s e f = BitVec.ofNat 1 s ++ BitVec.ofNat 8 e ++ BitVec.ofNat 23 f := by
  have hs' : s <<< 31 < 2 ^ 32 := by rw [Nat.shiftLeft_eq]; omega
  have he' : e <<< 23 < 2 ^ 32 := by rw [Nat.shiftLeft_eq]; omega
  apply BitVec.eq_of_toNat_eq
  simp only [packBinary32, BitVec.toNat_or, BitVec.toNat_shiftLeft, BitVec.toNat_ofNat, BitVec.toNat_append]
  rw [Nat.mod_eq_of_lt (show s < 2 ^ 32 by omega), Nat.mod_eq_of_lt (show e < 2 ^ 32 by omega),
    Nat.mod_eq_of_lt (show f < 2 ^ 32 by omega), Nat.mod_eq_of_lt hs', Nat.mod_eq_of_lt he',
    Nat.mod_eq_of_lt (show s < 2 ^ 1 by omega), Nat.mod_eq_of_lt he, Nat.mod_eq_of_lt hf,
    Nat.shiftLeft_or_distrib, ← Nat.shiftLeft_add]

theorem Binary32.sign_packBinary32 {s e f : Nat} (hs : s < 2) (he : e < 2 ^ 8) (hf : f < 2 ^ 23) :
    Binary32.sign (packBinary32 s e f) = BitVec.ofNat 1 s := by
  rw [packBinary32_eq_append hs he hf, Binary32.sign, BitVec.extractLsb'_append_eq_of_le (by decide)]
  exact BitVec.extractLsb'_append_eq_left

theorem Binary32.exponent_packBinary32 {s e f : Nat} (hs : s < 2) (he : e < 2 ^ 8) (hf : f < 2 ^ 23) :
    (Binary32.exponent (packBinary32 s e f)).toNat = e := by
  rw [packBinary32_eq_append hs he hf, Binary32.exponent, BitVec.extractLsb'_append_eq_of_le (by decide)]
  have hfield : (BitVec.ofNat 1 s ++ BitVec.ofNat 8 e).extractLsb' 0 8 = BitVec.ofNat 8 e :=
    BitVec.extractLsb'_append_eq_right
  rw [hfield, BitVec.toNat_ofNat, Nat.mod_eq_of_lt he]

theorem Binary32.fraction_packBinary32 {s e f : Nat} (hs : s < 2) (he : e < 2 ^ 8) (hf : f < 2 ^ 23) :
    (Binary32.fraction (packBinary32 s e f)).toNat = f := by
  rw [packBinary32_eq_append hs he hf, Binary32.fraction, BitVec.extractLsb'_append_eq_right, BitVec.toNat_ofNat,
    Nat.mod_eq_of_lt hf]

/-- The position of the highest set bit of a narrow value's magnitude is at most 15. -/
theorem exponent_le {n : Int} {e : Nat} (hlo : -32768 ≤ n) (hhi : n ≤ 32767) (he : 2 ^ e ≤ n.natAbs) : e ≤ 15 :=
  (Nat.pow_le_pow_iff_right (a := 2) (by decide)).mp (show 2 ^ e ≤ 2 ^ 15 by omega)

/-- R133: the magnitude with its highest bit removed, moved to the top of the fraction, fits its 23 bits. -/
theorem fraction_lt {m e : Nat} (he : e ≤ 23) (hhi : m < 2 ^ (e + 1)) : (m - 2 ^ e) * 2 ^ (23 - e) < 2 ^ 23 :=
  calc (m - 2 ^ e) * 2 ^ (23 - e) < 2 ^ e * 2 ^ (23 - e) :=
        Nat.mul_lt_mul_of_pos_right (by rw [Nat.pow_succ] at hhi; have := Nat.two_pow_pos e; omega) (Nat.two_pow_pos _)
    _ = 2 ^ 23 := by rw [← Nat.pow_add, Nat.add_sub_of_le he]

/-- R133 for a value whose highest set bit is known. -/
theorem gyroF_eq_packBinary32 {n : Int} {e : Nat} (hn : n ≠ 0) (hlo : 2 ^ e ≤ n.natAbs) (hhi : n.natAbs < 2 ^ (e + 1)) :
    gyroF n = packBinary32 (if n < 0 then 1 else 0) (e + 127 - 8) ((n.natAbs - 2 ^ e) * 2 ^ (23 - e)) := by
  have hlog : Nat.log2 n.natAbs = e := (Nat.log2_eq_iff (by omega)).mpr ⟨hlo, hhi⟩
  simp only [gyroF, if_neg hn, hlog]

/-- R133: the three fields. -/
theorem gyroF_fields {n : Int} {e : Nat} (hmin : -32768 ≤ n) (hmax : n ≤ 32767) (hn : n ≠ 0) (hlo : 2 ^ e ≤ n.natAbs)
    (hhi : n.natAbs < 2 ^ (e + 1)) :
    Binary32.sign (gyroF n) = (if n < 0 then 1 else 0) ∧ (Binary32.exponent (gyroF n)).toNat = e + 119 ∧
      (Binary32.fraction (gyroF n)).toNat = (n.natAbs - 2 ^ e) * 2 ^ (23 - e) := by
  have he := exponent_le hmin hmax hlo
  have hs : (if n < 0 then 1 else 0) < 2 := by split <;> decide
  have hE : e + 127 - 8 < 2 ^ 8 := by omega
  have hF := fraction_lt (show e ≤ 23 by omega) hhi
  rw [gyroF_eq_packBinary32 hn hlo hhi]
  refine ⟨?_, (Binary32.exponent_packBinary32 hs hE hF).trans (by omega), Binary32.fraction_packBinary32 hs hE hF⟩
  rw [Binary32.sign_packBinary32 hs hE hF]
  split <;> rfl

/-- Settles O23: no field of the pattern overlaps another, so each reads back. -/
theorem gyroFloatFields : Obligations.GyroFloatFields := by
  unfold Obligations.GyroFloatFields
  refine ⟨rfl, fun n e hmin hmax hn hlo hhi => ?_⟩
  obtain ⟨hsign, hexp, hfrac⟩ := gyroF_fields hmin hmax hn hlo hhi
  exact ⟨hsign, by omega, hfrac⟩

/-- The hidden bit restores the bit R133 removed from the magnitude. -/
theorem significand_gyroF {n : Int} {e : Nat} (hmin : -32768 ≤ n) (hmax : n ≤ 32767) (hn : n ≠ 0)
    (hlo : 2 ^ e ≤ n.natAbs) (hhi : n.natAbs < 2 ^ (e + 1)) :
    Binary32.significand (gyroF n) = n.natAbs * 2 ^ (23 - e) := by
  obtain ⟨-, hexp, hfrac⟩ := gyroF_fields hmin hmax hn hlo hhi
  have he := exponent_le hmin hmax hlo
  have hne : Binary32.exponent (gyroF n) ≠ 0 := fun h => by
    rw [h] at hexp
    exact absurd hexp.symm (Nat.succ_ne_zero _)
  rw [Binary32.significand, if_neg hne, hfrac]
  calc 2 ^ 23 + (n.natAbs - 2 ^ e) * 2 ^ (23 - e)
      = 2 ^ e * 2 ^ (23 - e) + (n.natAbs - 2 ^ e) * 2 ^ (23 - e) := by
        rw [← Nat.pow_add, Nat.add_sub_of_le (show e ≤ 23 by omega)]
    _ = n.natAbs * 2 ^ (23 - e) := by rw [← Nat.add_mul, Nat.add_sub_of_le hlo]

/-- R90, R133: the exponent undoes the shift of the significand, up to the scale of 1/256. -/
theorem magnitude_eq {m e : Nat} (he : e ≤ 15) :
    ((m * 2 ^ (23 - e) : Nat) : Rat) * 2 ^ (max (e + 119) 1) / 2 ^ 150 = m / 256 := by
  have hpow : (2 : Rat) ^ (23 - e) * 2 ^ (e + 119) = 2 ^ 142 := by
    rw [← pow_add, show 23 - e + (e + 119) = 142 by omega]
  rw [Nat.max_eq_left (by omega)]
  push_cast
  rw [mul_assoc, hpow]
  norm_num
  ring

theorem Binary32.value_zero : Binary32.value 0x00000000#32 = 0 := by
  have hsig : Binary32.significand 0x00000000#32 = 0 := rfl
  have hsign : Binary32.sign 0x00000000#32 ≠ 1 := by decide
  rw [Binary32.value, if_neg hsign, hsig]
  simp

/-- R133: the pattern's value is exact. -/
theorem value_gyroF {n : Int} (hmin : -32768 ≤ n) (hmax : n ≤ 32767) : Binary32.value (gyroF n) = (n : Rat) / 256 := by
  by_cases hn : n = 0
  · subst hn
    exact Binary32.value_zero.trans (by simp)
  · have hlo := Nat.log2_self_le (show n.natAbs ≠ 0 by omega)
    have hhi := Nat.lt_log2_self (n := n.natAbs)
    obtain ⟨hsign, hexp, -⟩ := gyroF_fields hmin hmax hn hlo hhi
    rw [Binary32.value, significand_gyroF hmin hmax hn hlo hhi, hexp, hsign,
      magnitude_eq (exponent_le hmin hmax hlo), ← Int.cast_natCast n.natAbs]
    by_cases hneg : n < 0
    · rw [if_pos hneg, if_pos rfl, show n = -n.natAbs by omega]
      simp [neg_div]
    · rw [if_neg hneg, if_neg (by decide), Int.natAbs_of_nonneg (by omega)]

/-- R43: the exponent field of a nonzero value's float is neither 0 nor 255. -/
theorem exponent_gyroF_range {n : Int} (hmin : -32768 ≤ n) (hmax : n ≤ 32767) (hn : n ≠ 0) :
    119 ≤ (Binary32.exponent (gyroF n)).toNat ∧ (Binary32.exponent (gyroF n)).toNat ≤ 134 := by
  have hlo := Nat.log2_self_le (show n.natAbs ≠ 0 by omega)
  obtain ⟨-, hexp, -⟩ := gyroF_fields hmin hmax hn hlo Nat.lt_log2_self
  have he := exponent_le hmin hmax hlo
  omega

/-- R43: a pattern with such an exponent field is none of the special values. -/
theorem Binary32.not_special {w : Word} (hlo : 0 < (Binary32.exponent w).toNat)
    (hhi : (Binary32.exponent w).toNat < 255) :
    Binary32.isNaN w = false ∧ Binary32.isInfinite w = false ∧ Binary32.isSubnormal w = false ∧
      Binary32.isNegativeZero w = false := by
  have hmax : (Binary32.exponent w == 255#8) = false := beq_false_of_ne fun h => by
    rw [h] at hhi
    exact absurd hhi (by decide)
  have hzero : (Binary32.exponent w == 0#8) = false := beq_false_of_ne fun h => by
    rw [h] at hlo
    exact absurd hlo (by decide)
  have hneg : (w == 0x80000000#32) = false := beq_false_of_ne fun h => by
    rw [h] at hlo
    exact absurd hlo (by decide)
  simp [Binary32.isNaN, Binary32.isInfinite, Binary32.isSubnormal, Binary32.isNegativeZero, hmax, hzero, hneg]

/-- R132: the range of a 16-bit pattern read signed. -/
theorem signed16_range (h : Half) : -32768 ≤ signed16 h ∧ signed16 h ≤ 32767 := by
  have h1 := BitVec.le_toInt h
  have h2 := BitVec.toInt_lt (x := h)
  simp only [signed16]
  omega

/-- Settles O24: the significand of 24 bits holds the 16-bit magnitude whole, and the exponents stay far from the
reserved ones. -/
theorem gyroFloatIsExact : Obligations.GyroFloatIsExact := by
  unfold Obligations.GyroFloatIsExact
  intro h
  obtain ⟨hmin, hmax⟩ := signed16_range h
  refine ⟨value_gyroF hmin hmax, ?_⟩
  by_cases hn : signed16 h = 0
  · rw [hn]
    decide
  · obtain ⟨hlo, hhi⟩ := exponent_gyroF_range hmin hmax hn
    exact Binary32.not_special (by omega) (by omega)

/-- Settles O25: equal patterns have equal values, which are the narrow values over 256. -/
theorem gyroFloatIsInjective : Obligations.GyroFloatIsInjective := by
  unfold Obligations.GyroFloatIsInjective
  intro h h' heq
  have hvalue : (signed16 h : Rat) / 256 = (signed16 h' : Rat) / 256 := by
    rw [← (gyroFloatIsExact h).1, ← (gyroFloatIsExact h').1, heq]
  have hint : signed16 h = signed16 h' := Int.cast_injective ((div_left_inj' (by norm_num)).mp hvalue)
  exact BitVec.eq_of_toInt_eq hint

/-- Settles O31: the rows are evaluated. -/
theorem conversionTableRows : Obligations.ConversionTableRows := by
  unfold Obligations.ConversionTableRows
  decide

end Sys2Proof.Machine
end

section
/-! PROOFS. The gyroscope registers after a good packet (41_decoder.md R142). -/

namespace Sys2Proof.Machine

/-- The offsets of the narrow fields in the modes that have them (R86, R87). -/
theorem decodePayload_eq_writeGyro {mode : DataMode} (h : mode ≠ .euler) (m : Memory) (f : SensorFrame) :
    ∃ g, decodePayload mode m f =
      writeGyro (narrowTriple m (if mode = .all then ⟨24, 26, 28⟩ else ⟨0, 2, 4⟩)) g := by
  cases mode with
  | all => exact ⟨_, rfl⟩
  | gyro => exact ⟨_, rfl⟩
  | euler => exact absurd rfl h

/-- D11: the three 16-bit registers hold the derived integers of three narrow values. -/
theorem writeGyro_gyroI_toInt (m : Memory) (offs : Triple Nat) (g : SensorFrame) :
    (writeGyro (narrowTriple m offs) g).gyroI.map BitVec.toInt = (narrowTriple m offs).map gyroI := by
  have hheld (off : Nat) : (BitVec.ofInt 16 (gyroI (narrow m off))).toInt = gyroI (narrow m off) :=
    toInt_ofInt_gyroI (narrow_range m off).1 (narrow_range m off).2
  simp only [writeGyro_gyroI, narrowTriple, Triple.map, hheld]

/-- Settles O29: each register holds the number written to it, so the relation between the numbers is one between the
registers. -/
theorem gyroRegistersAgreeAfterDecode : Obligations.GyroRegistersAgreeAfterDecode := by
  unfold Obligations.GyroRegistersAgreeAfterDecode
  intro s t hterm hmode hexec
  obtain rfl := exec_eq_next_iff.mp hexec
  have hframe : (Instr.next (.byte 0x0A#8) s).frame = decodePayload s.mode s.buf s.frame :=
    congrArg State.frame (Instr.next_of_completesGood ⟨hterm, rfl⟩)
  obtain ⟨g, hg⟩ := decodePayload_eq_writeGyro hmode s.buf s.frame
  rw [hframe, hg]
  have hints := writeGyro_gyroI_toInt s.buf (if s.mode = .all then ⟨24, 26, 28⟩ else ⟨0, 2, 4⟩) g
  refine ⟨?_, rfl, hints⟩
  rw [writeGyro_gyroChk, toInt_ofInt_gyroChk, gyroChk_eq_tmod]
  obtain ⟨hx, hy, hz⟩ := Triple.mk.inj hints
  rw [hx, hy, hz]

end Sys2Proof.Machine
end

section
/-! PROOFS. The canonical form of the buffer (20_memory.md section 4, log 7). -/

namespace Sys2Proof.Machine

/-- The first entry of a canonical memory is the lowest index that reads as listed. -/
theorem Memory.read_head_ne_unlisted {lo x : Nat} {c : Byte} {m : Memory}
    (h : Memory.wfFrom lo ((x, c) :: m) = true) : Memory.read ((x, c) :: m) x ≠ Memory.unlisted := by
  obtain ⟨-, -, hc, -⟩ := (Memory.wfFrom_cons lo x c m).mp h
  rwa [Memory.read_cons, if_pos rfl]

/-- So memories that read the same have their first entry at the same index. -/
theorem Memory.head_le_of_read_eq {lo x x' : Nat} {c c' : Byte} {m m' : Memory}
    (h : Memory.wfFrom lo ((x, c) :: m) = true) (h' : Memory.wfFrom lo ((x', c') :: m') = true)
    (hread : ∀ i, i < 30 → Memory.read ((x, c) :: m) i = Memory.read ((x', c') :: m') i) : x' ≤ x := by
  by_contra hlt
  obtain ⟨-, hx, -, -⟩ := (Memory.wfFrom_cons lo x c m).mp h
  obtain ⟨-, hx', hc', hm'⟩ := (Memory.wfFrom_cons lo x' c' m').mp h'
  have hfrom : Memory.wfFrom x' ((x', c') :: m') = true := (Memory.wfFrom_cons x' x' c' m').mpr ⟨le_rfl, hx', hc', hm'⟩
  exact Memory.read_head_ne_unlisted h ((hread x hx).trans (Memory.read_below hfrom (Nat.not_le.mp hlt)))

theorem Memory.eq_of_read_eq {lo : Nat} {m m' : Memory} (h : m.wfFrom lo = true) (h' : m'.wfFrom lo = true)
    (hread : ∀ i, i < 30 → m.read i = m'.read i) : m = m' := by
  induction m generalizing lo m' with
  | nil =>
    cases m' with
    | nil => rfl
    | cons e' m' =>
      obtain ⟨-, hx', -, -⟩ := (Memory.wfFrom_cons lo e'.1 e'.2 m').mp h'
      exact absurd (hread e'.1 hx').symm (Memory.read_head_ne_unlisted h')
  | cons e m ih =>
    obtain ⟨x, c⟩ := e
    obtain ⟨-, hx, -, hm⟩ := (Memory.wfFrom_cons lo x c m).mp h
    cases m' with
    | nil => exact absurd (hread x hx) (Memory.read_head_ne_unlisted h)
    | cons e' m' =>
      obtain ⟨x', c'⟩ := e'
      obtain ⟨-, -, -, hm'⟩ := (Memory.wfFrom_cons lo x' c' m').mp h'
      obtain rfl : x = x' := le_antisymm (Memory.head_le_of_read_eq h' h fun i hi => (hread i hi).symm)
        (Memory.head_le_of_read_eq h h' hread)
      have hc : c = c' := by simpa [Memory.read_cons] using hread x hx
      have htail : m = m' := ih hm hm' fun i hi => by
        by_cases hix : x = i
        · rw [Memory.read_below hm (by omega), Memory.read_below hm' (by omega)]
        · simpa [Memory.read_cons, hix] using hread i hi
      rw [hc, htail]

/-- Settles O21: entry by entry, the first being the lowest index that does not read as unlisted. -/
theorem canonicalBuffersAreEqual : Obligations.CanonicalBuffersAreEqual := by
  unfold Obligations.CanonicalBuffersAreEqual
  exact fun m m' h h' hread => Memory.eq_of_read_eq h h' hread

end Sys2Proof.Machine
end

section
/-! PROOFS. Runs of BYTE operations (40_framer.md section 3): a run over presented bytes is a fold of BYTE over them. -/

namespace Sys2Proof.Machine

/-- The block after BYTE with each byte at its clock value, oldest first. -/
def feedBytes (xs : List (Byte × Word)) (s : State) : State := xs.foldl (fun s x => performAt (.byte x.1) x.2 s) s

@[simp] theorem feedBytes_nil (s : State) : feedBytes [] s = s := rfl

theorem feedBytes_cons (b : Byte) (now : Word) (xs : List (Byte × Word)) (s : State) :
    feedBytes ((b, now) :: xs) s = feedBytes xs (performAt (.byte b) now s) := rfl

theorem feedBytes_append (xs ys : List (Byte × Word)) (s : State) :
    feedBytes (xs ++ ys) s = feedBytes ys (feedBytes xs s) := List.foldl_append

theorem performAt_byte (b : Byte) (now : Word) (s : State) :
    performAt (.byte b) now s = (s.sampleClock now).consumeByte b := performAt_eq _ now s

/-- BYTE does not look at the port. -/
theorem State.consumeByte_takeInput (s : State) (rest : List Input) (b : Byte) :
    (s.takeInput rest).consumeByte b = (s.consumeByte b).takeInput rest := by
  rcases s.consumeByte_cases b with
    ⟨k, hfs, hb, hnext⟩ | ⟨k, hfs, hb, hnext⟩ | ⟨hfs, hfill, hnext⟩ | ⟨hfs, hfill, hb, hnext⟩ | ⟨hfs, hfill, hb, hnext⟩
  all_goals rw [hnext]
  · exact State.consumeByte_of_match (s := s.takeInput rest) hfs hb
  · exact State.consumeByte_of_mismatch (s := s.takeInput rest) hfs hb
  · exact State.consumeByte_of_payload (s := s.takeInput rest) b hfs hfill
  · exact (State.consumeByte_of_awaitsTerminator (s := s.takeInput rest) b ⟨hfs, hfill⟩).trans (if_pos hb)
  · exact (State.consumeByte_of_awaitsTerminator (s := s.takeInput rest) b ⟨hfs, hfill⟩).trans (if_neg hb)

theorem performAt_byte_takeInput (b : Byte) (now : Word) (s : State) (rest : List Input) :
    performAt (.byte b) now (s.takeInput rest) = (performAt (.byte b) now s).takeInput rest := by
  rw [performAt_byte, performAt_byte]
  exact State.consumeByte_takeInput (s.sampleClock now) rest b

theorem feedBytes_takeInput (xs : List (Byte × Word)) (s : State) (rest : List Input) :
    feedBytes xs (s.takeInput rest) = (feedBytes xs s).takeInput rest := by
  induction xs generalizing s with
  | nil => rfl
  | cons x xs ih =>
    obtain ⟨b, now⟩ := x
    rw [feedBytes_cons, feedBytes_cons, performAt_byte_takeInput, ih]

theorem step_of_presented_byte {s : State} {b : Byte} {now : Word} {rest : List Input}
    (hport : s.port = present (.byte b) now :: rest) :
    step s = .next ((performAt (.byte b) now s).takeInput rest) := by
  rw [step_of_word hport, performWord_ok (decode_encode (.byte b)), exec_byte, ← performAt_byte_takeInput,
    performAt_byte]

theorem runSteps_presentBytes {xs : List (Byte × Word)} {s : State} {rest : List Input}
    (hport : s.port = presentBytes xs ++ rest) :
    runSteps xs.length s = .next ((feedBytes xs s).takeInput rest) := by
  induction xs generalizing s with
  | nil =>
    obtain rfl : s.port = rest := hport
    rfl
  | cons x xs ih =>
    obtain ⟨b, now⟩ := x
    rw [List.length_cons, runSteps_succ (step_of_presented_byte hport), ih rfl, feedBytes_takeInput, feedBytes_cons]
    rfl

/-- R111, R112: short of the fourth magic byte the framer goes on seeking, at most one position further. -/
theorem performAt_byte_seeks {s : State} {k : Fin 4} (b : Byte) (now : Word) (hfs : s.fs = .seekByte k)
    (hk : k.val < 3) : ∃ j : Fin 4, (performAt (.byte b) now s).fs = .seekByte j ∧ j.val ≤ k.val + 1 := by
  rw [performAt_byte]
  by_cases hb : b = s.cfg.magic[k]
  · rw [State.consumeByte_of_match (s := s.sampleClock now) hfs hb]
    exact ⟨⟨k.val + 1, Nat.succ_lt_succ hk⟩, dif_pos hk, le_rfl⟩
  · rw [State.consumeByte_of_mismatch (s := s.sampleClock now) hfs hb]
    exact ⟨0, rfl, Nat.zero_le _⟩

theorem performAt_byte_cfg (b : Byte) (now : Word) (s : State) : (performAt (.byte b) now s).cfg = s.cfg := by
  rw [performAt_byte]
  exact ((s.sampleClock now).consumeByte_keeps b).1

theorem performAt_byte_of_match {s : State} {k : Fin 4} {b : Byte} (now : Word) (hfs : s.fs = .seekByte k)
    (hb : b = s.cfg.magic[k]) :
    performAt (.byte b) now s = ((s.sampleClock now).goto (nextSeek k)).returns (.evt false) :=
  (performAt_byte b now s).trans (State.consumeByte_of_match (s := s.sampleClock now) hfs hb)

theorem performAt_byte_fs_of_match {s : State} {k : Fin 4} {b : Byte} (now : Word) (hfs : s.fs = .seekByte k)
    (hb : b = s.cfg.magic[k]) : (performAt (.byte b) now s).fs = nextSeek k := by
  rw [performAt_byte_of_match now hfs hb]
  rfl

theorem performAt_byte_fs_of_mismatch {s : State} {k : Fin 4} {b : Byte} (now : Word) (hfs : s.fs = .seekByte k)
    (hb : b ≠ s.cfg.magic[k]) : (performAt (.byte b) now s).fs = .seekByte 0 := by
  rw [performAt_byte, State.consumeByte_of_mismatch (s := s.sampleClock now) hfs hb]
  rfl

theorem magic_toList (v : Vector Byte 4) : v.toList = [v[0], v[1], v[2], v[3]] := by
  obtain ⟨⟨l⟩, hl⟩ := v
  match l, hl with
  | [_, _, _, _], _ => rfl

/-- R124: the repeated first byte and the second one each restart the search, so the last two bytes of the sequence
cannot complete it. -/
theorem feedBytes_repeated_first_magic {s : State} (now : Word) (hfs : s.fs = .seekByte 0)
    (hne : s.cfg.magic[0] ≠ s.cfg.magic[1]) :
    (feedBytes (atTime now (s.cfg.magic[0] :: s.cfg.magic.toList)) s).fs ≠ .collecting := by
  rw [magic_toList]
  simp only [atTime, List.map, feedBytes_cons, feedBytes_nil]
  have h1 := performAt_byte_fs_of_match (b := s.cfg.magic[0]) now hfs rfl
  have h2 := performAt_byte_fs_of_mismatch (b := s.cfg.magic[0]) now h1 (by rwa [performAt_byte_cfg])
  have h3 := performAt_byte_fs_of_mismatch (b := s.cfg.magic[1]) now h2
    (by rw [performAt_byte_cfg, performAt_byte_cfg]; exact hne.symm)
  obtain ⟨j, h4, hj⟩ := performAt_byte_seeks s.cfg.magic[2] now h3 (by decide)
  obtain ⟨j', h5, -⟩ := performAt_byte_seeks s.cfg.magic[3] now h4 (hj.trans_lt (by decide))
  rw [h5]
  exact FramerState.noConfusion

/-- Settles O19: the run is the fold of BYTE over the five bytes. -/
theorem repeatedFirstMagicByteMissesFrame : Obligations.RepeatedFirstMagicByteMissesFrame := by
  unfold Obligations.RepeatedFirstMagicByteMissesFrame
  intro s now rest hfs hne hport
  have hrun := runSteps_presentBytes hport
  have hlen : (atTime now (s.cfg.magic[0] :: s.cfg.magic.toList)).length = 5 := by simp [atTime]
  rw [hlen] at hrun
  exact ⟨_, hrun, feedBytes_repeated_first_magic now hfs hne, rfl⟩

end Sys2Proof.Machine
end

section
/-! PROOFS. No packet event before the terminator position (40_framer.md R122): each byte takes the framer at most one
position further. -/

namespace Sys2Proof.Machine

/-- The terminator is awaited when the magic and the payload are consumed. -/
theorem awaitsTerminator_iff_progress {s : State} : s.AwaitsTerminator ↔ 4 + payloadLen s.mode ≤ s.progress := by
  unfold State.AwaitsTerminator State.progress
  cases s.fs with
  | seekByte k =>
    have := k.isLt
    simp only [reduceCtorEq, false_and, false_iff]
    omega
  | collecting => simp

theorem State.progress_of_seekByte {s : State} {k : Fin 4} (h : s.fs = .seekByte k) : s.progress = k.val := by
  simp only [State.progress, h]

theorem State.progress_of_collecting {s : State} (h : s.fs = .collecting) : s.progress = 4 + s.fill.toNat := by
  simp only [State.progress, h]

/-- A match moves one position on, into `Collecting` with nothing collected after the fourth. -/
theorem progress_of_nextSeek {s : State} {k : Fin 4} (hfs : s.fs = nextSeek k) (hfill : s.fill = 0) :
    s.progress = k.val + 1 := by
  unfold nextSeek at hfs
  split at hfs
  next hk => exact State.progress_of_seekByte hfs
  next hk =>
    rw [State.progress_of_collecting hfs, hfill, show (0 : BitVec 5).toNat = 0 from rfl]
    have := k.isLt
    omega

theorem State.Inv.progress_consumeByte_le {s : State} (h : s.Inv) (b : Byte) :
    (s.consumeByte b).progress ≤ s.progress + 1 := by
  rcases s.consumeByte_cases b with
    ⟨k, hfs, -, hnext⟩ | ⟨k, hfs, -, hnext⟩ | ⟨hfs, hfill, hnext⟩ | ⟨-, -, -, hnext⟩ | ⟨-, -, -, hnext⟩
  all_goals rw [hnext]
  · rw [progress_of_nextSeek (s := (s.goto (nextSeek k)).returns (.evt false)) rfl (h.fill_eq_zero hfs),
      State.progress_of_seekByte hfs]
  · exact Nat.zero_le _
  · rw [State.progress_of_collecting (s := (s.storePayload b).returns (.evt false)) hfs,
      State.progress_of_collecting hfs, State.returns_fill, State.storePayload_fill, fill_succ_toNat hfill]
    omega
  · exact Nat.zero_le _
  · exact Nat.zero_le _

/-- What holds of a state that bytes have reached from `s` without a packet event. -/
structure ReachedWithoutEvent (s t : State) : Prop where
  inv   : t.Inv
  mode  : t.mode = s.mode
  stats : SameStatistics s t

theorem ReachedWithoutEvent.refl {s : State} (h : s.Inv) : ReachedWithoutEvent s s := ⟨h, rfl, SameStatistics.refl s⟩

/-- One more byte, before the terminator position. -/
theorem ReachedWithoutEvent.performAt_byte {s t : State} (h : ReachedWithoutEvent s t) (b : Byte) (now : Word)
    (hterm : ¬ t.AwaitsTerminator) :
    ReachedWithoutEvent s (performAt (.byte b) now t) ∧ (performAt (.byte b) now t).res = .evt false ∧
      (performAt (.byte b) now t).progress ≤ t.progress + 1 := by
  have hinv : (t.sampleClock now).Inv := h.inv.of_eq rfl rfl rfl rfl
  rw [Machine.performAt_byte]
  obtain ⟨-, hmode, -⟩ := (t.sampleClock now).consumeByte_keeps b
  have hstats : SameStatistics t ((t.sampleClock now).consumeByte b) := by
    obtain ⟨h1, h2, h3, h4, h5⟩ := State.consumeByte_sameStatistics (s := t.sampleClock now) b hterm
    exact ⟨h1, h2, h3, h4, h5⟩
  exact ⟨⟨hinv.consumeByte b, hmode.trans h.mode, h.stats.trans hstats⟩,
    (State.consumeByte_res_lastGood_of_not_awaitsTerminator (s := t.sampleClock now) b hterm).1,
    hinv.progress_consumeByte_le b⟩

/-- From `SeekByte0` fewer bytes than magic and payload have together do not reach the terminator position. -/
theorem feedBytes_reachedWithoutEvent {s : State} (hs : s.Inv) (hfs : s.fs = .seekByte 0) (xs : List (Byte × Word))
    (hlen : xs.length ≤ 4 + payloadLen s.mode) :
    ReachedWithoutEvent s (feedBytes xs s) ∧ (feedBytes xs s).progress ≤ xs.length ∧
      (0 < xs.length → (feedBytes xs s).res = .evt false) := by
  induction xs using List.reverseRecOn with
  | nil => exact ⟨ReachedWithoutEvent.refl hs, (State.progress_of_seekByte hfs).le, fun h => absurd h (Nat.lt_irrefl 0)⟩
  | append_singleton xs x ih =>
    rw [List.length_append, List.length_singleton] at hlen ⊢
    obtain ⟨hreached, hprogress, -⟩ := ih (by omega)
    have hterm : ¬ (feedBytes xs s).AwaitsTerminator := by
      rw [awaitsTerminator_iff_progress, hreached.mode]
      omega
    obtain ⟨hreached', hres, hprogress'⟩ := hreached.performAt_byte x.1 x.2 hterm
    rw [feedBytes_append]
    exact ⟨hreached', hprogress'.trans (by omega), fun _ => hres⟩

theorem presentBytes_append (xs ys : List (Byte × Word)) :
    presentBytes (xs ++ ys) = presentBytes xs ++ presentBytes ys := List.map_append

/-- Settles O54: fewer bytes than a whole frame has do not bring the framer past the terminator position. -/
theorem noEventWithoutWholeFrame : Obligations.NoEventWithoutWholeFrame := by
  unfold Obligations.NoEventWithoutWholeFrame
  intro s xs rest k hs hfs hport hk hpos hlt
  have hlen : (xs.take k).length = k := List.length_take_of_le hk
  have hport' : s.port = presentBytes (xs.take k) ++ (presentBytes (xs.drop k) ++ rest) := by
    rw [hport, ← List.append_assoc, ← presentBytes_append, List.take_append_drop]
  have hrun := runSteps_presentBytes hport'
  rw [hlen] at hrun
  obtain ⟨-, -, hres⟩ := feedBytes_reachedWithoutEvent hs hfs (xs.take k) (by omega)
  exact ⟨_, hrun, hres (hlen.symm ▸ hpos)⟩

end Sys2Proof.Machine
end

section
/-! PROOFS. Whole frames (40_framer.md R120, R121). -/

namespace Sys2Proof.Machine

/-- The frame in progress consists of these payload bytes. -/
structure State.Collected (s : State) (bs : List Byte) : Prop where
  fs   : s.fs = .collecting
  wf   : s.buf.wf = true
  fill : s.fill.toNat = bs.length
  read : ∀ (i : Nat) (h : i < bs.length), s.buf.read i = bs[i]

theorem State.Collected.consumeByte {s : State} {bs : List Byte} (h : s.Collected bs) (b : Byte)
    (hlt : bs.length < payloadLen s.mode) : (s.consumeByte b).Collected (bs ++ [b]) := by
  have hfill : s.fill.toNat < payloadLen s.mode := h.fill ▸ hlt
  rw [State.consumeByte_of_payload b h.fs hfill]
  refine ⟨h.fs, Memory.wf_write b h.wf (hfill.trans_le (payloadLen_le_bufCap s.mode)), ?_, fun i hi => ?_⟩
  · rw [State.returns_fill, State.storePayload_fill, fill_succ_toNat hfill, h.fill, List.length_append,
      List.length_singleton]
  · rw [State.returns_buf, State.storePayload_buf, Memory.read_write b h.wf, h.fill, List.getElem_append]
    rw [List.length_append, List.length_singleton] at hi
    by_cases hib : i < bs.length
    · rw [if_neg (Nat.ne_of_lt hib), dif_pos hib, h.read i hib]
    · rw [if_pos (show i = bs.length by omega), dif_neg hib]
      simp

theorem State.Collected.feedBytes {s : State} {bs : List Byte} (h : s.Collected bs) (xs : List (Byte × Word))
    (hlen : bs.length + xs.length ≤ payloadLen s.mode) : (feedBytes xs s).Collected (bs ++ xs.map Prod.fst) := by
  induction xs generalizing s bs with
  | nil => simpa using h
  | cons x xs ih =>
    obtain ⟨b, now⟩ := x
    rw [List.length_cons] at hlen
    have hclock : (s.sampleClock now).Collected bs := ⟨h.fs, h.wf, h.fill, h.read⟩
    have hnext := hclock.consumeByte b (show bs.length < payloadLen s.mode by omega)
    obtain ⟨-, hmode, -⟩ := (s.sampleClock now).consumeByte_keeps b
    rw [feedBytes_cons, performAt_byte, List.map_cons, List.append_cons]
    refine ih hnext ?_
    rw [hmode, List.length_append, List.length_singleton]
    exact (show bs.length + 1 + xs.length ≤ payloadLen s.mode by omega)

/-- The state while the magic is consumed, at the clock value of the last byte. -/
def State.seekingAt (s : State) (f : FramerState) (now : Word) : State :=
  ((s.sampleClock now).goto f).returns (.evt false)

theorem performAt_byte_seekingAt {s : State} {k : Fin 4} {b : Byte} (now now' : Word) (hb : b = s.cfg.magic[k]) :
    performAt (.byte b) now' (s.seekingAt (.seekByte k) now) = s.seekingAt (nextSeek k) now' :=
  performAt_byte_of_match (s := s.seekingAt (.seekByte k) now) now' rfl hb

/-- R111: the four magic bytes bring the framer into `Collecting` with nothing collected. -/
theorem feedBytes_magic {s : State} (hs : s.Inv) (hfs : s.fs = .seekByte 0) {xs : List (Byte × Word)}
    (hxs : xs.map Prod.fst = s.cfg.magic.toList) : (feedBytes xs s).Collected [] := by
  rw [magic_toList] at hxs
  match xs, hxs with
  | [(b0, n0), (b1, n1), (b2, n2), (b3, n3)], hxs =>
    simp only [List.map, List.cons.injEq, and_true] at hxs
    obtain ⟨h0, h1, h2, h3⟩ := hxs
    have hfed : feedBytes [(b0, n0), (b1, n1), (b2, n2), (b3, n3)] s = s.seekingAt .collecting n3 :=
      calc feedBytes [(b0, n0), (b1, n1), (b2, n2), (b3, n3)] s
          = feedBytes [(b1, n1), (b2, n2), (b3, n3)] (s.seekingAt (.seekByte 1) n0) :=
            congrArg (feedBytes _) (performAt_byte_of_match n0 hfs h0)
        _ = feedBytes [(b2, n2), (b3, n3)] (s.seekingAt (.seekByte 2) n1) :=
            congrArg (feedBytes _) (performAt_byte_seekingAt n0 n1 (k := 1) h1)
        _ = feedBytes [(b3, n3)] (s.seekingAt (.seekByte 3) n2) :=
            congrArg (feedBytes _) (performAt_byte_seekingAt n1 n2 (k := 2) h2)
        _ = s.seekingAt .collecting n3 := performAt_byte_seekingAt n2 n3 (k := 3) h3
    rw [hfed]
    have hfill : s.fill.toNat = 0 := by
      rw [hs.fill_eq_zero hfs]
      rfl
    exact ⟨rfl, hs.bufCanonical, hfill, fun i hi => absurd hi (Nat.not_lt_zero i)⟩

/-- R84: magic and payload leave the framer at the terminator position with the payload in the buffer. -/
theorem feedBytes_magic_payload {s : State} (hs : s.Inv) (hfs : s.fs = .seekByte 0) {xs : List (Byte × Word)}
    {payload : List Byte} (hlen : payload.length = payloadLen s.mode)
    (hxs : xs.map Prod.fst = s.cfg.magic.toList ++ payload) :
    (feedBytes xs s).Collected payload ∧ (feedBytes xs s).AwaitsTerminator ∧
      ReachedWithoutEvent s (feedBytes xs s) := by
  have hxslen : xs.length = 4 + payloadLen s.mode := by
    have := congrArg List.length hxs
    simpa [hlen] using this
  obtain ⟨hreached, -, -⟩ := feedBytes_reachedWithoutEvent hs hfs xs hxslen.le
  obtain ⟨ms, ps, rfl, hms, hps⟩ := List.map_eq_append_iff.mp hxs
  have hmslen : ms.length ≤ 4 + payloadLen s.mode := by
    rw [← hxslen, List.length_append]
    omega
  obtain ⟨hmagic, -, -⟩ := feedBytes_reachedWithoutEvent hs hfs ms hmslen
  have hpslen : ps.length = payloadLen s.mode := by rw [← hlen, ← hps, List.length_map]
  have hcollected := (feedBytes_magic hs hfs hms).feedBytes ps (by
    rw [hmagic.mode, List.length_nil, hpslen, Nat.zero_add])
  rw [List.nil_append, hps, ← feedBytes_append] at hcollected
  refine ⟨hcollected, ⟨hcollected.fs, ?_⟩, hreached⟩
  rw [hreached.mode, hcollected.fill, hlen]

/-- R120, R121: the run over a whole frame ends with what its last byte does at the terminator position. -/
theorem runSteps_whole_frame {s : State} (hs : s.Inv) (hfs : s.fs = .seekByte 0) {xs : List (Byte × Word)}
    {payload : List Byte} {b : Byte} {last : Word} {rest : List Input} (hlen : payload.length = payloadLen s.mode)
    (hxs : xs.map Prod.fst = s.cfg.magic.toList ++ payload)
    (hport : s.port = presentBytes (xs ++ [(b, last)]) ++ rest) :
    (∀ k, 0 < k → k ≤ 4 + payloadLen s.mode → ∃ u, runSteps k s = .next u ∧ u.res = .evt false) ∧
    runSteps (frameLen s.mode) s = .next ((performAt (.byte b) last (feedBytes xs s)).takeInput rest) := by
  have hwhole : (xs ++ [(b, last)]).length = frameLen s.mode := by
    have := congrArg List.length hxs
    simp only [List.length_map, List.length_append, Vector.length_toList] at this
    simp only [List.length_append, List.length_singleton, frameLen, this, hlen]
  refine ⟨fun k hpos hk => ?_, ?_⟩
  · have hkx : k ≤ (xs ++ [(b, last)]).length := hwhole.symm ▸ Nat.le_succ_of_le hk
    exact noEventWithoutWholeFrame s _ rest k hs hfs hport hkx hpos (by omega)
  · rw [← hwhole, runSteps_presentBytes hport, feedBytes_append, feedBytes_cons, feedBytes_nil]

/-- Settles O52: at the terminator position the payload is in the buffer and nothing else has changed, and the decode
reads no other byte. -/
theorem goodFrameIsDecoded : Obligations.GoodFrameIsDecoded := by
  unfold Obligations.GoodFrameIsDecoded
  intro s payload xs last rest hs hfs hlen hxs hport
  obtain ⟨hsilent, hrun⟩ := runSteps_whole_frame hs hfs hlen hxs hport
  obtain ⟨hcollected, hterm, -, hmode, hstats⟩ := feedBytes_magic_payload hs hfs hlen hxs
  generalize feedBytes xs s = u at hrun hcollected hterm hmode hstats
  have hgood : performAt (.byte 0x0A#8) last u = (u.sampleClock last).goodPacket :=
    (performAt_byte _ last u).trans (Instr.next_of_completesGood (s := u.sampleClock last) ⟨hterm, rfl⟩)
  rw [hgood] at hrun
  refine ⟨hsilent, _, hrun, rfl, congrArg (· + 1) hstats.goodCnt, hstats.badCnt, rfl, rfl, rfl, rfl, rfl, hmode, rfl,
    hcollected.read, ?_⟩
  have hdecode : decodePayload u.mode u.buf u.frame =
      decodePayload s.mode (Memory.ofBytesFrom 0 payload) s.frame := by
    rw [hmode, hstats.frame]
    refine decodePayload_congr _ fun i hi => ?_
    have hip : i < payload.length := hlen ▸ hi
    rw [hcollected.read i hip, Memory.read_ofBytesFrom, dif_pos ⟨Nat.zero_le i, by omega⟩]
    rfl
  exact hdecode

/-- Settles O53: the same run, with a byte at the terminator position that is not the terminator. -/
theorem badFrameIsRejected : Obligations.BadFrameIsRejected := by
  unfold Obligations.BadFrameIsRejected
  intro s payload xs bad last rest hs hfs hlen hxs hbad hport
  obtain ⟨hsilent, hrun⟩ := runSteps_whole_frame hs hfs hlen hxs hport
  obtain ⟨-, hterm, -, hmode, hstats⟩ := feedBytes_magic_payload hs hfs hlen hxs
  generalize feedBytes xs s = u at hrun hterm hmode hstats
  have hnext : performAt (.byte bad) last u = (u.sampleClock last).badPacket :=
    (performAt_byte bad last u).trans
      (Instr.next_of_completesBad (s := u.sampleClock last) ⟨hterm, bad, hbad, rfl⟩)
  rw [hnext] at hrun
  exact ⟨hsilent, _, hrun, rfl, congrArg (· + 1) hstats.badCnt, hstats.goodCnt, rfl, rfl, rfl, rfl, hstats.tGood,
    hmode, hstats.frame, rfl⟩

end Sys2Proof.Machine
end

section
/-! PROOFS. Polls and requests (43_host_environment.md R184 to R188). -/

namespace Sys2Proof.Machine

/-- R185: a drain that met no event has left its block to the drain that follows. -/
theorem drainBytes_append {xs : List (Byte × Word)} {s : State} (ys : List (Byte × Word))
    (h : (drainBytes xs s).1 = false) : drainBytes (xs ++ ys) s = drainBytes ys (drainBytes xs s).2.2 := by
  induction xs generalizing s with
  | nil => rfl
  | cons x xs ih =>
    obtain ⟨b, now⟩ := x
    rw [drainBytes_cons] at h ⊢
    rw [List.cons_append, drainBytes_cons]
    split at h
    next => cases h
    next hev =>
      rw [if_neg hev, if_neg hev]
      exact ih h

/-- Settles O56: a poll of everything is a drain of the waiting bytes. -/
theorem splitPollsCompose : Obligations.SplitPollsCompose := by
  unfold Obligations.SplitPollsCompose
  intro h xs ys hno
  rw [Session.poll_true] at hno
  rw [Session.poll_true, Session.poll_true, Session.poll_true, drainBytes_append ys hno]

/-- R188: SETMODE first, then the command where it is forced or the mode differs. -/
theorem Session.setDataMode_eq (h : Session) (m : Byte) (force : Bool) :
    h.setDataMode m force =
      if force ∨ modeOf h.block.cfg m ≠ h.block.mode then
        (h.perform (.setmode m)).act (command 0x6D#8 [modeArgument (modeOf h.block.cfg m)])
      else h.perform (.setmode m) := rfl

theorem Session.perform_block (i : Instr) (h : Session) :
    (h.perform i).block = Instr.next i (h.block.sampleClock h.block.now) := performAt_eq i _ _

theorem Session.setDataMode_block (h : Session) (m : Byte) (force : Bool) :
    (h.setDataMode m force).block = (h.perform (.setmode m)).block := by
  rw [Session.setDataMode_eq]
  split <;> simp

theorem Session.setDataMode_unsent {h : Session} {m : Byte} (hsame : modeOf h.block.cfg m = h.block.mode) :
    h.setDataMode m false = h.perform (.setmode m) := by
  rw [Session.setDataMode_eq, if_neg (by simp [hsame])]

/-- N13: the mode byte is the number of the mode or its ASCII digit. -/
theorem modeArgument_eq (m : DataMode) : modeArgument m = modeNumber m ∨ modeArgument m = 0x30#8 + modeNumber m := by
  unfold modeArgument
  split
  · exact .inr rfl
  · exact .inl rfl

/-- Settles O60: SETMODE is performed in both branches, the command in one. -/
theorem setDataModeAlwaysClearsFraming : Obligations.SetDataModeAlwaysClearsFraming := by
  unfold Obligations.SetDataModeAlwaysClearsFraming
  intro h m force
  refine ⟨?_, ?_, fun hsend => ⟨modeArgument (modeOf h.block.cfg m), ?_, modeArgument_eq _⟩⟩
  · rw [Session.setDataMode_block, Session.perform_block]
    rfl
  · rintro ⟨rfl, hsame⟩
    rw [Session.setDataMode_unsent hsame, Session.perform_actions]
  · rw [Session.setDataMode_eq, if_pos hsend]
    rfl

/-- R187, D28: a request for the current mode restarts the framer and sends `#f` alone. -/
theorem Session.requestFrame_current (h : Session) :
    h.requestFrame (modeNumber h.block.mode) =
      { h with
        block := { h.block with fs := .seekByte 0, fill := 0, res := .unit }
        actions := h.actions ++ [.write [0x23#8, 0x66#8]] } := by
  have hmode := modeOf_modeNumber h.block.cfg h.block.mode
  rw [Session.requestFrame, Session.setDataMode_unsent hmode, Session.perform, performAt_eq]
  simp only [Instr.next, State.sampleClock_cfg, hmode]
  rfl

/-- R186: what `pollValid` does after a bad packet without continuous streaming. -/
theorem Session.pollValid_of_bad_packet {h : Session} {d : Bool} (hevent : (h.poll d).1 = true)
    (hbad : (h.poll d).2.block.lastGood = false) (hlink : h.link.continuous = false) :
    h.pollValid d =
      (false, ((h.poll d).2.perform (.qnew 1)).requestFrame
        (modeNumber ((h.poll d).2.perform (.qnew 1)).block.mode)) := by
  have hlink' : ((h.poll d).2.perform (.qnew 1)).link.continuous = false := by
    rw [Session.perform_link, Session.poll_link, hlink]
  simp only [Session.pollValid, hevent, hbad, hlink', Bool.not_true, Bool.false_eq_true, if_false]

/-- Settles O57: QNEW 1 clears the flag and the request for the current mode follows. -/
theorem badPacketRequestsOneFrame : Obligations.BadPacketRequestsOneFrame := by
  unfold Obligations.BadPacketRequestsOneFrame
  intro h d hevent hbad hlink
  rw [Session.pollValid_of_bad_packet hevent hbad hlink, Session.requestFrame_current]
  refine ⟨rfl, ?_, Session.poll_link d h, rfl, rfl⟩
  simp only [Session.perform_actions, Session.poll_actions]

end Sys2Proof.Machine
end

section
/-! PROOFS. The configuration operations (43_host_environment.md R190 to R194). -/

namespace Sys2Proof.Machine

/-- N13: the identifier's byte is its number, 1 to 9, or the ASCII digit of it. -/
theorem toNat_baudArgument (i : Fin 9) :
    (baudArgument i).toNat = 1 + i.val ∨ (baudArgument i).toNat = 0x31 + i.val := by
  have := i.isLt
  unfold baudArgument
  split
  · exact .inr (by rw [BitVec.toNat_ofNat]; omega)
  · exact .inl (by rw [BitVec.toNat_ofNat]; omega)

theorem Session.setBaudRate_unsupported {h : Session} {rate : Nat} (internal : Bool)
    (hid : h.table.identifier rate = none) : h.setBaudRate rate internal = h := by
  simp only [Session.setBaudRate, hid]

theorem Session.setBaudRate_supported {h : Session} {rate : Nat} {i : Fin 9} (internal : Bool)
    (hid : h.table.identifier rate = some i) :
    h.setBaudRate rate internal = { h with
      actions := h.actions ++ (if internal then [] else [command 0x62#8 [baudArgument i]]) ++
        (.flush :: reopenActions rate internal)
      link := { h.link with baud := some i } } := by
  simp only [Session.setBaudRate, hid]

theorem BaudTable.mem_rates (t : BaudTable) (i : Fin 9) : t.rates[i] ∈ t.rates.toList := by simp

/-- R193: the table holds a rate exactly when it has an identifier. -/
theorem BaudTable.exists_identifier {t : BaudTable} {rate : Nat} (h : rate ∈ t.rates.toList) :
    ∃ i, t.identifier rate = some i := by
  by_contra hnone
  exact (t.identifier_eq_none rate).mp (Option.eq_none_iff_forall_ne_some.mpr (not_exists.mp hnone)) h

/-- Settles O58: the lookup finds the entry of a rate, and the two branches of the operation are written out. -/
theorem baudRateChangeOrder : Obligations.BaudRateChangeOrder := by
  unfold Obligations.BaudRateChangeOrder
  refine ⟨fun t i => (t.identifier_eq_some _ i).mpr rfl, fun t rate i hid => ?_, fun t => ?_,
    fun h rate internal hid => Session.setBaudRate_unsupported internal hid, fun h rate i hid => ?_⟩
  · obtain rfl := (t.identifier_eq_some rate i).mp hid
    exact ⟨rfl, t.within _ (t.mem_rates i)⟩
  · refine ⟨BaudTable.exists_identifier t.lowest, BaudTable.exists_identifier t.highest,
      (t.identifier_eq_none 1200).mpr fun hmem => ?_⟩
    exact absurd (t.within 1200 hmem).1 (by decide)
  · rw [Session.setBaudRate_supported true hid, Session.setBaudRate_supported false hid]
    refine ⟨?_, baudArgument i, toNat_baudArgument i, ?_⟩
    · simp [reopenActions]
    · simp [reopenActions, command]

theorem Session.setBaudRate_block (h : Session) (rate : Nat) (internal : Bool) :
    (h.setBaudRate rate internal).block = h.block := by
  cases hid : h.table.identifier rate with
  | none => rw [Session.setBaudRate_unsupported internal hid]
  | some i => rw [Session.setBaudRate_supported internal hid]

theorem Session.start_of_isOpen {h : Session} (initial final : Nat) (hopen : h.link.isOpen = true) :
    h.start initial final = h := if_pos hopen

theorem Session.start_block (h : Session) (initial final : Nat) : (h.start initial final).block = h.block := by
  unfold Session.start
  split
  next => rfl
  next =>
    split
    next => rfl
    next => cases h.table.identifier final <;> rfl

/-- Settles O59: these operations write the link state and the actions. -/
theorem configurationLeavesBlockAlone : Obligations.ConfigurationLeavesBlockAlone := by
  unfold Obligations.ConfigurationLeavesBlockAlone
  exact fun h rate final b v => ⟨h.setBaudRate_block rate b, h.start_block rate final, rfl, rfl, rfl, rfl,
    Session.start_of_isOpen rate final⟩

end Sys2Proof.Machine
end
